-- ==== Sys2Proof/Word.lean ====
section
/-! DEFINITION. The word types of the SJ-3240 (spec/00_scope.md, Conventions). -/

namespace Sys2Proof

/-- A byte of the management link, or a set of eight byte lanes. -/
abbrev Byte := BitVec 8

/-- A word of either port: 64 bits (Conventions, "Words"). -/
abbrev Word := BitVec 64

/-- A 40-bit byte address (Conventions, "Addresses"). -/
abbrev Addr := BitVec 40

/-- A value of the tick counter (R166). -/
abbrev Tick := BitVec 32

/-- An initiator number 0..15. -/
abbrev Initiator := Fin 16

/-- A window number 0..31. -/
abbrev WindowId := Fin 32

/-- A notice class 0..15. -/
abbrev ClassId := Fin 16

end Sys2Proof
end

