-- ==== Sys2Proof/Syntax.lean ====
section
/-! DEFINITION. The commands of the block: one constructor per row of spec/opcode_table.json. -/

namespace Sys2Proof

/-- A write word: 64 data bits and its set of enabled byte lanes, lane k as bit k (section 1.1). -/
structure WriteWord where
  data : Word
  lanes : Byte
deriving DecidableEq, Repr

/-- The kind and length of a request, with a WRITE's words (section 1.1). A READ carries no data. -/
inductive Transfer
  | read (length : Nat)
  | write (words : List WriteWord)
deriving DecidableEq, Repr

/-- Number of words of a request (section 1.1). -/
def Transfer.length : Transfer → Nat
  | .read n => n
  | .write ws => ws.length

/-- The memory's answer to a burst (R128). -/
inductive MemStatus
  | ok
  | error
deriving DecidableEq, Repr

/-- The commands of the block. The link commands carry their operand bytes as section 10.6 lays them out (a field
of several bytes as one value) and the frame's check byte (R177). -/
inductive Instr
  /-- RST_N goes low (R19). -/
  | pinReset
  /-- RST_N goes high (R180). -/
  | pinResetRelease
  /-- A request is offered by initiator `n` and taken when R1 allows. -/
  | requestTaken (n : Initiator) (address : Addr) (transfer : Transfer)
  /-- The oldest WAITING entry of queue `n` starts (R3). -/
  | entryStart (n : Initiator)
  /-- The routing entry of queue `n` routes its next word (R4). -/
  | routeWord (n : Initiator)
  /-- The held word of queue `n` is routed afresh (R10). -/
  | restart (n : Initiator)
  /-- The hold timer of queue `n`'s HELD entry expires (R12). -/
  | holdExpiry (n : Initiator)
  /-- The DONE entry at the head of queue `n` returns its response (R15). -/
  | responseReturn (n : Initiator)
  /-- The port arbiter takes a grant (R136). -/
  | portGrant
  /-- The memory answers the oldest outstanding burst (R128). `data` is what stands on the read data lines: the port
  takes as many words as the burst has from an OK on a READ, and none otherwise. -/
  | memoryResponse (status : MemStatus) (data : Vector Word 32)
  /-- The notice writer starts a write (R150). -/
  | noticeWriteStart
  /-- The divider reaches the declared clock and the current tick closes (R166). -/
  | tickClose
  /-- The gather timer of a FILLING staging slot expires (R58). -/
  | gatherTimeout (slot : Fin 16)
  /-- The snapshot timer of a HELD snapshot slot expires (R107). -/
  | snapshotTimeout (slot : Fin 24)
  /-- CLEARING ends (R186). -/
  | clearingEnd
  /-- CS_N rises before the check byte is complete (R178). -/
  | frameCut
  /-- A frame with an unknown command code (R179). -/
  | unknownCommand (code check : Byte)
  | getStatus (check : Byte)
  | getWindow (window check : Byte)
  | putWindow (window : Byte) (base : Addr) (recordWords : Byte) (recordCount : BitVec 16) (flags : Byte) (writerSet readerSet : BitVec 16) (cls eventEnables check : Byte)
  | enableWindow (window check : Byte)
  | disableWindow (window check : Byte)
  | reopenWindow (window check : Byte)
  | flushWindow (window check : Byte)
  | setTimers (gather hold snapshot : BitVec 16) (check : Byte)
  | setClock (mhz : BitVec 16) (check : Byte)
  | setRing (base : Addr) (capacity : Byte) (ackWord : Addr) (faultClass check : Byte)
  | setClasses (mode : Byte) (masked : BitVec 16) (check : Byte)
  | getClass (cls check : Byte)
  | restartNotices (check : Byte)
  | setPort (mode check : Byte)
  | clear (check : Byte)
deriving DecidableEq, Repr

end Sys2Proof
end

