-- ==== Sys2Proof/WellFormed.lean ====
section
/-! DEFINITION. Which command terms stand for something the pins can carry. -/

namespace Sys2Proof

/-- The fifteen command codes of section 10.6. -/
def knownCodes : List Byte :=
  [0x10, 0x20, 0x21, 0x22, 0x23, 0x24, 0x25, 0x30, 0x31, 0x40, 0x41, 0x42, 0x43, 0x50, 0x60]

/-- A request has 1 to 8 words and a word-aligned address (section 1.1). -/
def requestWellFormed (address : Addr) (transfer : Transfer) : Bool :=
  decide (1 ≤ transfer.length) && decide (transfer.length ≤ 8) && decide (address.toNat % 8 = 0)

/-- The check on command terms: a request the port group can carry, and an unknown command's code that is unknown.
Every other operand may take every value of its type. -/
def Instr.wellFormed : Instr → Bool
  | .requestTaken _ address transfer => requestWellFormed address transfer
  | .unknownCommand code _ => !knownCodes.contains code
  | .pinReset | .pinResetRelease | .entryStart _ | .routeWord _ | .restart _ | .holdExpiry _ | .responseReturn _
  | .portGrant | .memoryResponse _ _ | .noticeWriteStart | .tickClose | .gatherTimeout _ | .snapshotTimeout _
  | .clearingEnd | .frameCut | .getStatus _ | .getWindow _ _ | .putWindow _ _ _ _ _ _ _ _ _ _ | .enableWindow _ _
  | .disableWindow _ _ | .reopenWindow _ _ | .flushWindow _ _ | .setTimers _ _ _ _ | .setClock _ _
  | .setRing _ _ _ _ _ | .setClasses _ _ _ | .getClass _ _ | .restartNotices _ | .setPort _ _ | .clear _ => true

end Sys2Proof
end

