-- ==== Sys2Proof/Decode.lean ====
section
/-! DEFINITION. The frames of the management link (R176, R188): their bytes, and the command a frame carries. The
opcode table gives no row bits, so `decodeTableWord` spells no command. -/

namespace Sys2Proof

/-- The command that a word spells by the opcode table's bits: the table gives no row any bits. -/
def decodeTableWord (_nbits _w : Nat) : Option Instr := none

/-- The two bytes of a 16-bit field, most significant first (R188). -/
def bytes2 (v : BitVec 16) : List Byte := [v.extractLsb' 8 8, v.extractLsb' 0 8]

/-- The four bytes of a 32-bit field, most significant first (R188). -/
def bytes4 (v : BitVec 32) : List Byte :=
  [v.extractLsb' 24 8, v.extractLsb' 16 8, v.extractLsb' 8 8, v.extractLsb' 0 8]

/-- The five bytes of a 40-bit address, most significant first (R188). -/
def bytes5 (v : Addr) : List Byte :=
  [v.extractLsb' 32 8, v.extractLsb' 24 8, v.extractLsb' 16 8, v.extractLsb' 8 8, v.extractLsb' 0 8]

/-- The 16-bit field sent as two bytes (R188). -/
def word2 (b1 b0 : Byte) : BitVec 16 := b1 ++ b0

/-- The 40-bit address sent as five bytes (R188). -/
def word5 (b4 b3 b2 b1 b0 : Byte) : Addr := b4 ++ b3 ++ b2 ++ b1 ++ b0

/-- The bytes of a link command's frame: command byte, operand bytes, check byte (R176, section 10.6). A command that
is no frame has none. -/
def encodeFrame : Instr → List Byte
  | .unknownCommand code check => [code, check]
  | .getStatus check => [0x10, check]
  | .getWindow w check => [0x20, w, check]
  | .putWindow w base rw rc flags ws rs cls ev check =>
    [0x21, w] ++ bytes5 base ++ [rw] ++ bytes2 rc ++ [flags] ++ bytes2 ws ++ bytes2 rs ++ [cls, ev, check]
  | .enableWindow w check => [0x22, w, check]
  | .disableWindow w check => [0x23, w, check]
  | .reopenWindow w check => [0x24, w, check]
  | .flushWindow w check => [0x25, w, check]
  | .setTimers g h sn check => [0x30] ++ bytes2 g ++ bytes2 h ++ bytes2 sn ++ [check]
  | .setClock mhz check => [0x31] ++ bytes2 mhz ++ [check]
  | .setRing base cap ack fc check => [0x40] ++ bytes5 base ++ [cap] ++ bytes5 ack ++ [fc, check]
  | .setClasses mode masked check => [0x41, mode] ++ bytes2 masked ++ [check]
  | .getClass c check => [0x42, c, check]
  | .restartNotices check => [0x43, check]
  | .setPort mode check => [0x50, mode, check]
  | .clear check => [0x60, check]
  | .pinReset | .pinResetRelease | .requestTaken _ _ _ | .entryStart _ | .routeWord _ | .restart _ | .holdExpiry _
  | .responseReturn _ | .portGrant | .memoryResponse _ _ | .noticeWriteStart | .tickClose | .gatherTimeout _
  | .snapshotTimeout _ | .clearingEnd | .frameCut => []

/-- Operand bytes of a command code, an unknown code having none (section 10.6, R179). -/
def operandBytes (code : Byte) : Nat :=
  if code = 0x21 then 16 else if code = 0x30 then 6 else if code = 0x31 then 2 else if code = 0x40 then 12
  else if code = 0x41 then 3
  else if code = 0x20 ∨ code = 0x22 ∨ code = 0x23 ∨ code = 0x24 ∨ code = 0x25 ∨ code = 0x42 ∨ code = 0x50 then 1 else 0

/-- The command that command byte `code` and the bytes after it spell: the code tells how many operand bytes stand
before the check byte (R176), bytes after it are ignored, an unknown code has no operand (R179), and a frame that ends
before its check byte is cut (R178). -/
def decodeOperands (code : Byte) (rest : List Byte) : Instr :=
  if code = 0x10 then (match rest with | check :: _ => .getStatus check | _ => .frameCut)
  else if code = 0x20 then (match rest with | w :: check :: _ => .getWindow w check | _ => .frameCut)
  else if code = 0x21 then
    (match rest with
      | w :: a4 :: a3 :: a2 :: a1 :: a0 :: rw :: c1 :: c0 :: flags :: w1 :: w0 :: r1 :: r0 :: cls :: ev :: check :: _ =>
        .putWindow w (word5 a4 a3 a2 a1 a0) rw (word2 c1 c0) flags (word2 w1 w0) (word2 r1 r0) cls ev check
      | _ => .frameCut)
  else if code = 0x22 then (match rest with | w :: check :: _ => .enableWindow w check | _ => .frameCut)
  else if code = 0x23 then (match rest with | w :: check :: _ => .disableWindow w check | _ => .frameCut)
  else if code = 0x24 then (match rest with | w :: check :: _ => .reopenWindow w check | _ => .frameCut)
  else if code = 0x25 then (match rest with | w :: check :: _ => .flushWindow w check | _ => .frameCut)
  else if code = 0x30 then
    (match rest with
      | g1 :: g0 :: h1 :: h0 :: s1 :: s0 :: check :: _ => .setTimers (word2 g1 g0) (word2 h1 h0) (word2 s1 s0) check
      | _ => .frameCut)
  else if code = 0x31 then (match rest with | m1 :: m0 :: check :: _ => .setClock (word2 m1 m0) check | _ => .frameCut)
  else if code = 0x40 then
    (match rest with
      | a4 :: a3 :: a2 :: a1 :: a0 :: cap :: k4 :: k3 :: k2 :: k1 :: k0 :: fc :: check :: _ =>
        .setRing (word5 a4 a3 a2 a1 a0) cap (word5 k4 k3 k2 k1 k0) fc check
      | _ => .frameCut)
  else if code = 0x41 then
    (match rest with | mode :: m1 :: m0 :: check :: _ => .setClasses mode (word2 m1 m0) check | _ => .frameCut)
  else if code = 0x42 then (match rest with | c :: check :: _ => .getClass c check | _ => .frameCut)
  else if code = 0x43 then (match rest with | check :: _ => .restartNotices check | _ => .frameCut)
  else if code = 0x50 then (match rest with | mode :: check :: _ => .setPort mode check | _ => .frameCut)
  else if code = 0x60 then (match rest with | check :: _ => .clear check | _ => .frameCut)
  else (match rest with | check :: _ => .unknownCommand code check | _ => .frameCut)

/-- The command carried by the bytes sampled on MOSI while CS_N is low (R176, R178, R179). -/
def decodeFrame : List Byte → Instr
  | [] => .frameCut
  | code :: rest => decodeOperands code rest

end Sys2Proof
end

