-- ==== Sys2Proof/Config.lean ====
section
/-! DEFINITION. The fixed sizes of the SJ-3240 and its pin-reset settings. The spec leaves no value of the part
open, so there is no free value here. -/

namespace Sys2Proof.Config

/-- Entries of a request queue (R1). -/
abbrev queueDepth : Nat := 4

/-- Entries of the reservation table (R68). -/
abbrev reservations : Nat := 8

/-- Places of the outstanding list (R127). -/
abbrev outstandingPlaces : Nat := 8

/-- Snapshot slots one initiator may hold (R88). -/
abbrev slotsPerReader : Nat := 4

/-- The ceiling of a class's pending count (R142). -/
abbrev pendingCeiling : Nat := 255

/-- The ceiling of a timer's elapsed count (R169). -/
abbrev elapsedCeiling : Nat := 65535

/-- First byte address above the 40-bit address space. -/
abbrev addressEnd : Nat := 2 ^ 40

/-- The declared clock after pin reset, in MHz (R167). -/
abbrev resetClock : Nat := 100

/-- The gather timeout after pin reset (R170). -/
abbrev resetGatherTimeout : Nat := 1000

/-- The hold timeout after pin reset (R170). -/
abbrev resetHoldTimeout : Nat := 250

/-- The snapshot timeout after pin reset (R170). -/
abbrev resetSnapshotTimeout : Nat := 2000

end Sys2Proof.Config
end

