-- ==== Sys2Proof/Machine/State.lean ====
section
/-! DEFINITION. The state of the SJ-3240, block by block, as plain data, and its value after reset. -/

namespace Sys2Proof.Machine

/-! ### Names shared by several blocks -/

/-- Priority modes of the port arbiter (R135) and of the class choice (R151). -/
inductive PriorityMode
  | fixed
  | rotating
deriving DecidableEq, Repr

/-- A running timer (R169). The start tick stands beside it under the spec's own name (open time, hold start, last-use
time). -/
structure Timer where
  /-- Tick closes since the start; the elapsed count of R169 is this number held at 65535 (log 6). -/
  elapsed : Nat
  /-- The close in which the timer expired, while its owner has still to take the expiry (R169, log 6). -/
  expired : Option Tick
deriving DecidableEq, Repr

/-- The time an event reads, and whether it is taken as part of that tick's close (R166). -/
structure Moment where
  tick : Tick
  ofClose : Bool
deriving DecidableEq, Repr

/-- A record: window number and record index (R67). -/
structure RecordId where
  window : WindowId
  record : Nat
deriving DecidableEq, Repr

/-- A word of a queue entry: the entry (queue and tag) and the word position (R5). -/
structure WordRef where
  initiator : Initiator
  tag : Fin 4
  position : Nat
deriving DecidableEq, Repr

/-- A memory operation on the port (R126). -/
inductive Burst
  | read (address : Addr) (length : Nat)
  | write (address : Addr) (words : List WriteWord)
deriving DecidableEq, Repr

/-! ### The initiator port (chapter 1) -/

/-- The six response codes (R13). -/
inductive Code
  | ok
  | refused
  | expired
  | memError
  | badCheck
  | aborted
deriving DecidableEq, Repr

/-- A word outcome (section 1.2). `data` is the data word of a READ word answered OK, and zero for every other word
(R16). -/
inductive WordOutcome
  | unknown
  | pending
  | answered (code : Code) (data : Word)
deriving DecidableEq, Repr

/-- The four hold reasons (section 1.5). -/
inductive HoldReason
  | noStaging
  | recordBusy
  | noSnapshot
  | draining
deriving DecidableEq, Repr

/-- A restart owed to a held word (R10). A restart caused by an expiry is part of that tick close and reads the closing
tick (R166, log 7). -/
inductive RestartDue
  | none
  | owed
  | owedAtClose (closing : Tick)
deriving DecidableEq, Repr

/-- What a HELD entry records (section 1.2, R9), with the held word's record (log 17). -/
structure Hold where
  reason : HoldReason
  target : RecordId
  start : Tick
  timer : Timer
  restart : RestartDue
deriving DecidableEq, Repr

/-- Entry states (section 1.2). -/
inductive EntryState
  | waiting
  | held (hold : Hold)
  | inProgress
  | done
deriving DecidableEq, Repr

/-- The run of consecutive pass-through words, or of direct window reads of one window, that the port is forming
(R5, R6). -/
structure Run where
  /-- The window of a direct-read run; none for a pass-through run. -/
  window : Option WindowId
  /-- Word position of the run's first word. -/
  first : Nat
  /-- Words of the run so far. -/
  count : Nat
  /-- Records a direct-read run touches, ascending (R81). -/
  records : List RecordId
deriving DecidableEq, Repr

/-- A queue entry (sections 1.1 and 1.2). The initiator is the queue's number. -/
structure Entry where
  /-- Identity of the entry within its queue (R5, log 14). -/
  tag : Fin 4
  address : Addr
  transfer : Transfer
  state : EntryState
  position : Nat
  outcomes : List WordOutcome
  run : Option Run
  /-- The closing tick of the expiry that caused the entry's start, or the restart it routes on from: its routings are
  part of that close (R166, log 7). None for an entry that no expiry set going. -/
  closing : Option Tick
deriving DecidableEq, Repr

/-- A response (R16): the data words of a READ, none for a WRITE. -/
structure Response where
  initiator : Initiator
  code : Code
  data : Option (List Word)
deriving DecidableEq, Repr

/-! ### The window table (chapter 2) -/

/-- Window states (section 2.3). -/
inductive WindowState
  | off
  | active
  | draining
  | closed
deriving DecidableEq, Repr

/-- Window kinds (section 2.7). -/
inductive WindowKind
  | table
  | stream
deriving DecidableEq, Repr

/-- The optional event kinds a window raises (section 2.1). -/
structure EventEnables where
  committed : Bool
  wrapped : Bool
  snapshotExpired : Bool
  refused : Bool
deriving DecidableEq, Repr

/-- A window entry (section 2.1). Initiator n of a set is bit n. -/
structure Window where
  state : WindowState
  base : Addr
  recordWords : Nat
  recordCount : Nat
  kind : WindowKind
  snapshots : Bool
  stamps : Bool
  reload : Bool
  writerSet : BitVec 16
  readerSet : BitVec 16
  cls : ClassId
  enables : EventEnables
  cursor : Nat
  sequence : BitVec 32
deriving DecidableEq, Repr

/-! ### The staging pool (chapter 3) -/

/-- What a slot in use gathers (section 3.1). The presence set is the set of offsets with a word. -/
structure Gather where
  target : RecordId
  owner : Initiator
  words : Vector (Option Word) 32
  openTime : Tick
deriving DecidableEq, Repr

/-- What a COMMITTING slot holds besides (section 3.1). -/
structure CommitInfo where
  completing : WordRef
  retried : Bool
  sequence : Option (BitVec 32)
deriving DecidableEq, Repr

/-- A staging slot (section 3.1). -/
inductive StagingSlot
  | free
  | filling (gather : Gather) (timer : Timer)
  | committing (gather : Gather) (info : CommitInfo)
deriving DecidableEq, Repr

/-! ### The snapshot pool (chapter 5) -/

/-- What a snapshot slot in use holds in both its states (section 5.1). -/
structure SnapshotInfo where
  reader : Initiator
  target : RecordId
  lastUse : Tick
  /-- Counts from the last-use time; it expires in HELD alone (R107). -/
  timer : Timer
  /-- Place in the order in which last-use times were set (R88, log 16). -/
  useOrder : Nat
deriving DecidableEq, Repr

/-- A read word that waits for a load, with its offset in the record (R92). -/
structure WaitingWord where
  word : WordRef
  offset : Nat
deriving DecidableEq, Repr

/-- A snapshot slot (section 5.1). -/
inductive SnapshotSlot
  | free
  | loading (info : SnapshotInfo) (retrySpent reloadSpent : Bool) (waiting : List WaitingWord)
  | held (info : SnapshotInfo) (words : List Word) (readSet : Vector Bool 32)
deriving DecidableEq, Repr

/-! ### The record interlock (chapter 4) -/

/-- An operation that needs a reservation, and its owner (R67). -/
inductive OpOwner
  | commit (slot : Fin 16)
  | load (slot : Fin 24)
  | direct (initiator : Initiator) (words : List WordRef) (address : Addr)
deriving DecidableEq, Repr

/-- The reason recorded when an operation is not taken at arrival (R72). -/
inductive WaitReason
  | conflict
  | tableFull
deriving DecidableEq, Repr

/-- An item of the wait list (R69). -/
structure WaitItem where
  owner : OpOwner
  records : List RecordId
  reason : WaitReason
deriving DecidableEq, Repr

/-- Owner of a reservation (R68). A load without a slot is an orphaned load (R105). -/
inductive ReservationOwner
  | commit (slot : Fin 16)
  | load (slot : Option (Fin 24))
  | direct (words : List WordRef)
deriving DecidableEq, Repr

/-- A reservation (R68). A COMMIT or LOAD whose burst is not in flight holds it at its requester (R132, R133). -/
structure Reservation where
  /-- Identity of the table entry (log 14). -/
  id : Fin 8
  owner : ReservationOwner
  records : List RecordId
  inFlight : Bool
  firstIssued : Bool
  /-- The burst of the operation, fixed at the taking: with a commit's stamp word (R76), repeated as it is (R77, R98). -/
  burst : Burst
deriving DecidableEq, Repr

/-- The interlock: reservations in taking order and waiting operations in arrival order (R68, R69). -/
structure Interlock where
  table : List Reservation
  waitList : List WaitItem
deriving DecidableEq, Repr

/-! ### The memory port (chapter 7) -/

/-- The four requesters. -/
inductive Requester
  | direct
  | commit
  | load
  | notice
deriving DecidableEq, Repr

/-- A burst of a direct list (R130). A direct window read's burst stands in its reservation. -/
inductive DirectItem
  | passThrough (burst : Burst) (words : List WordRef)
  | windowRead (reservation : Fin 8)
deriving DecidableEq, Repr

/-- Where a response goes (R127). -/
inductive BurstOwner
  | words (words : List WordRef)
  | reservation (id : Fin 8)
  | noticeWriter
deriving DecidableEq, Repr

/-- An item of the outstanding list (R127). -/
structure Outstanding where
  requester : Requester
  burst : Burst
  owner : BurstOwner
deriving DecidableEq, Repr

/-- The memory port (section 7.6). -/
structure MemoryPort where
  outstanding : List Outstanding
  direct : Vector (List DirectItem) 16
  mode : PriorityMode
  rotation : List Requester
  lastServed : Initiator
deriving DecidableEq, Repr

/-! ### The notice unit (chapter 8) -/

/-- The eleven event kinds (R141). -/
inductive EventKind
  | committed
  | wrapped
  | closed
  | abandoned
  | commitFailed
  | loadFailed
  | checkFailed
  | holdExpired
  | snapshotExpired
  | refused
  | drained
deriving DecidableEq, Repr

/-- An event (R141), and the first-event record of a class (R142). -/
structure Event where
  kind : EventKind
  window : Option WindowId
  record : Option Nat
  initiator : Option Initiator
  sequence : Option (BitVec 32)
  time : Tick
deriving DecidableEq, Repr

/-- A notice class (R142). Kind with code k of the kinds-seen set is bit k - 1. -/
structure NoticeClass where
  pending : Nat
  first : Option Event
  kinds : BitVec 11
  masked : Bool
  inFlight : Bool
deriving DecidableEq, Repr

/-- Notice unit states (section 8.2). -/
inductive NoticeState
  | unconfigured
  | running
  | halted
deriving DecidableEq, Repr

/-- The ring and the ack word set by SET_RING (R146). -/
structure Ring where
  base : Addr
  capacity : Nat
  ackWord : Addr
deriving DecidableEq, Repr

/-- The current write of a WRITING notice writer (section 8.3). -/
structure NoticeWrite where
  cls : ClassId
  count : Nat
  first : Event
  kinds : BitVec 11
  producer : BitVec 32
  /-- The entry of R152 in the layout of R194, at its ring position (R153). -/
  burst : Burst
  /-- The attempt is *repeat* (R155). -/
  repeated : Bool
  /-- The burst has been issued and not answered; otherwise the NOTICE requester holds it (R134). -/
  outstanding : Bool
deriving DecidableEq, Repr

/-- The notice unit (section 8.7). -/
structure NoticeUnit where
  state : NoticeState
  ring : Option Ring
  faultClass : ClassId
  /-- P. -/
  produced : BitVec 32
  /-- O. -/
  consumed : BitVec 32
  inFlight : List (BitVec 32 × ClassId)
  classes : Vector NoticeClass 16
  mode : PriorityMode
  /-- L. -/
  lastDelivered : ClassId
  /-- None while the writer is IDLE. -/
  writer : Option NoticeWrite
  ackRange : Bool
deriving DecidableEq, Repr

/-! ### Hand-overs between blocks -/

/-- What one block has handed to another, which has still to take it (R182; log 8). -/
inductive HandOver
  /-- An event on its way to its class (R143, R164). -/
  | event (cls : ClassId) (e : Event)
  /-- A slot of the window has become FREE, by an expiry of the closing tick if one is given: the window table has its drain
  check to make (R29, R41, R55, R89, R166). -/
  | slotFreed (window : WindowId) (closing : Option Tick)
  /-- The final memory response of a reservation's operation, for the interlock (R73). -/
  | release (id : Fin 8)
deriving DecidableEq, Repr

/-! ### The time base, the link and the part -/

/-- The time base (section 9.5). -/
structure TimeBase where
  counter : Tick
  declaredClock : Nat
  position : Nat
  gatherTimeout : Nat
  holdTimeout : Nat
  snapshotTimeout : Nat
deriving DecidableEq, Repr

/-- Part state (R184). -/
inductive PartState
  | running
  | clearing
deriving DecidableEq, Repr

/-- The management link: the response bytes of the frame last ended, none for a frame without response (R176, R178,
log 13). -/
structure Link where
  response : Option (List Byte)
  /-- A frame is in progress whose CS_N was low while RST_N was low: it is discarded, up to the rise of CS_N (R180,
  log 13). -/
  heldLow : Bool
deriving DecidableEq, Repr

/-- The state of the SJ-3240 and the commands that wait for it. -/
structure State where
  /-- Level of RST_N. -/
  rstN : Bool
  partState : PartState
  timeBase : TimeBase
  windows : Vector Window 32
  queues : Vector (List Entry) 16
  staging : Vector StagingSlot 16
  snapshots : Vector SnapshotSlot 24
  /-- The model's own count behind `SnapshotInfo.useOrder` (log 16). -/
  snapshotUses : Nat
  interlock : Interlock
  port : MemoryPort
  notice : NoticeUnit
  link : Link
  /-- The response last returned on the initiator port (R15, log 18). -/
  lastResponse : Option Response
  /-- The hand-overs on their way between blocks, oldest first (R182, log 8). -/
  transit : List HandOver
  /-- The next command comes before the hand-overs still in transit (log 8). -/
  heldBack : Bool
  /-- The commands that wait, first in first out (log 3). -/
  pending : List Instr
deriving DecidableEq, Repr

/-- Why a step stops with a fault. -/
inductive Fault
  /-- Raised by REQUEST_TAKEN and UNKNOWN_COMMAND for a term that is not well formed: no pin signals it carries exist
  (log 15). Safe: the part never meets such a command. -/
  | illFormed
deriving DecidableEq, Repr

/-- Why a command has no meaning. -/
inductive Refusal
  /-- Raised by a dispatch arm of a command without a meaning; no arm raises it. Safe: nothing is claimed. -/
  | notModelled (mnemonic : String)
deriving DecidableEq, Repr

/-! ### Reset values -/

/-- A window entry after pin reset (R42). -/
def Window.reset : Window :=
  { state := .off, base := 0, recordWords := 0, recordCount := 0, kind := .table, snapshots := false, stamps := false,
    reload := false, writerSet := 0, readerSet := 0, cls := 0, enables := ⟨false, false, false, false⟩, cursor := 0,
    sequence := 0 }

/-- The time base after pin reset (section 9.5). -/
def TimeBase.reset : TimeBase :=
  { counter := 0, declaredClock := Config.resetClock, position := 0, gatherTimeout := Config.resetGatherTimeout,
    holdTimeout := Config.resetHoldTimeout, snapshotTimeout := Config.resetSnapshotTimeout }

/-- The starting arrangement of the rotation order (R137, R140). -/
def MemoryPort.startRotation : List Requester := [.notice, .commit, .load, .direct]

/-- The memory port after pin reset (R140). -/
def MemoryPort.reset : MemoryPort :=
  { outstanding := [], direct := Vector.replicate 16 [], mode := .rotating, rotation := MemoryPort.startRotation,
    lastServed := 15 }

/-- A class after pin reset (R165). -/
def NoticeClass.reset : NoticeClass := { pending := 0, first := none, kinds := 0, masked := true, inFlight := false }

/-- The notice unit after pin reset (R165). -/
def NoticeUnit.reset : NoticeUnit :=
  { state := .unconfigured, ring := none, faultClass := 0, produced := 0, consumed := 0, inFlight := [],
    classes := Vector.replicate 16 NoticeClass.reset, mode := .fixed, lastDelivered := 15, writer := none,
    ackRange := false }

/-- The machine after pin reset, RST_N released, with nothing waiting (R19, R42, R66, R86, R111, R140, R165, R180;
log 1). -/
def State.reset : State :=
  { rstN := true, partState := .running, timeBase := TimeBase.reset, windows := Vector.replicate 32 Window.reset,
    queues := Vector.replicate 16 [], staging := Vector.replicate 16 .free, snapshots := Vector.replicate 24 .free,
    snapshotUses := 0, interlock := ⟨[], []⟩, port := MemoryPort.reset, notice := NoticeUnit.reset, link := ⟨none, false⟩,
    lastResponse := none, transit := [], heldBack := false, pending := [] }

end Sys2Proof.Machine
end

