-- ==== Sys2Proof/Machine/Operands.lean ====
section
/-! DEFINITION. How the link's operands are read: the frame check (R177), numbers (R181), modes (R188), and the fields
of PUT_WINDOW (R24, section 10.6). -/

namespace Sys2Proof.Machine

/-- The sum of bytes modulo 256 (R177). -/
def byteSum (bytes : List Byte) : Byte := bytes.foldr (· + ·) 0

/-- A frame is sound when its bytes, the check byte included, sum to 0 (R177). -/
def frameSound (frame : List Byte) : Bool := byteSum frame == 0

/-- A window number operand, none above 31 (R181). -/
def windowOperand (b : Byte) : Option WindowId := if h : b.toNat < 32 then some ⟨b.toNat, h⟩ else none

/-- A class number operand, none above 15 (R181, R146, R24). -/
def classOperand (b : Byte) : Option ClassId := if h : b.toNat < 16 then some ⟨b.toNat, h⟩ else none

/-- A mode operand: 0 FIXED, 1 ROTATING, no other value (R188). -/
def modeOperand (b : Byte) : Option PriorityMode :=
  if b = 0 then some .fixed else if b = 1 then some .rotating else none

/-- A legal record size in words (R24, R26). -/
def legalRecordWords (n : Nat) : Bool := [2, 4, 8, 16, 32].contains n

/-- A legal record count (R24, R26). -/
def legalRecordCount (n : Nat) : Bool := decide (1 ≤ n) && decide (n ≤ 4096)

/-- The event_enables byte (section 10.6). -/
def enablesOperand (b : Byte) : EventEnables :=
  { committed := b.getLsbD 0, wrapped := b.getLsbD 1, snapshotExpired := b.getLsbD 2, refused := b.getLsbD 3 }

/-- The field checks of R24 for the carried values of PUT_WINDOW; the entry with every value taken, its cursor 0 and
its state and sequence kept (R23), or none when a check fails. -/
def putOperand (old : Window) (base : Addr) (recordWords : Byte) (recordCount : BitVec 16) (flags : Byte)
    (writerSet readerSet : BitVec 16) (cls eventEnables : Byte) : Option Window :=
  match classOperand cls with
  | none => none
  | some c =>
    if legalRecordWords recordWords.toNat && legalRecordCount recordCount.toNat && decide (base.toNat % 8 = 0)
        && decide (flags.toNat < 16) && decide (eventEnables.toNat < 16) then
      some { old with
        base := base, recordWords := recordWords.toNat, recordCount := recordCount.toNat
        kind := if flags.getLsbD 0 then .stream else .table
        snapshots := flags.getLsbD 1, stamps := flags.getLsbD 2, reload := flags.getLsbD 3
        writerSet := writerSet, readerSet := readerSet, cls := c, enables := enablesOperand eventEnables, cursor := 0 }
    else none

end Sys2Proof.Machine
end

