-- ==== Sys2Proof/Machine/Flags.lean ====
section
/-! DEFINITION. What the part shows: its output lines (R158, R1), status bytes (R189), kind codes (R141), and the
records and entries of sections 10.6 and 10.7. -/

namespace Sys2Proof.Machine

/-! ### Output lines -/

/-- NTF_N is asserted while P differs from O (R158). -/
def NoticeUnit.ntfAsserted (n : NoticeUnit) : Bool := n.produced != n.consumed

/-- FLT_N is asserted while the notice unit is HALTED (R158). -/
def NoticeUnit.fltAsserted (n : NoticeUnit) : Bool := n.state == .halted

/-- The ready signal of initiator n: high exactly while a request from n would be taken (R1). -/
def State.ready (s : State) (n : Initiator) : Bool :=
  s.rstN && s.partState == .running && decide (s.queues[n].length < Config.queueDepth)

/-- MISO in a byte time of a frame, counted from 1 at the fall of CS_N, after a command phase of `command` byte times: FFh
in the command phase, then the response bytes, then FFh; FFh throughout for a frame without response (R176, R180). -/
def Link.miso (l : Link) (command time : Nat) : Byte :=
  if time ≤ command then 0xFF
  else match l.response with
    | none => 0xFF
    | some r => (r[time - command - 1]?).getD 0xFF

/-! ### Link status -/

/-- The status codes of section 10.2. -/
inductive Status
  | accepted
  | badFrame
  | badArg
  | badState
  | busy
deriving DecidableEq, Repr

/-- The status byte (R189). -/
def Status.byte : Status → Byte
  | .accepted => 0
  | .badFrame => 1
  | .badArg => 2
  | .badState => 3
  | .busy => 4

/-- The response bytes: status, results, and the check byte that brings their sum to 0 (R177). -/
def responseBytes (status : Status) (results : List Byte) : List Byte :=
  status.byte :: results ++ [0 - byteSum (status.byte :: results)]

/-! ### Event kinds -/

/-- The code of a kind (R141). -/
def EventKind.code : EventKind → Nat
  | .committed => 1
  | .wrapped => 2
  | .closed => 3
  | .abandoned => 4
  | .commitFailed => 5
  | .loadFailed => 6
  | .checkFailed => 7
  | .holdExpired => 8
  | .snapshotExpired => 9
  | .refused => 10
  | .drained => 11

/-- The kinds-seen set with one member: kind with code k is bit k - 1 (R188, R194). -/
def EventKind.mask (k : EventKind) : BitVec 11 := 1#11 <<< (k.code - 1)

/-! ### Records of the link -/

/-- A number as one byte. -/
def byteOf (n : Nat) : Byte := BitVec.ofNat 8 n

/-- A flag as a one-bit vector. -/
def bit (b : Bool) : BitVec 1 := BitVec.ofBool b

/-- The line and flag byte of GET_STATUS (R190). -/
def NoticeUnit.lineByte (n : NoticeUnit) : Byte := 0#5 ++ bit n.fltAsserted ++ bit n.ntfAsserted ++ bit n.ackRange

/-- Staging slots in use (R44). -/
def State.stagingInUse (s : State) : Nat := s.staging.toList.countP (· != .free)

/-- Snapshot slots in use (R87). -/
def State.snapshotsInUse (s : State) : Nat := s.snapshots.toList.countP (· != .free)

/-- Waiting operations by the reason recorded at arrival (R72). -/
def Interlock.waitingFor (i : Interlock) (r : WaitReason) : Nat := i.waitList.countP (·.reason == r)

/-- The part state byte (R190). -/
def PartState.byte : PartState → Byte
  | .running => 0
  | .clearing => 1

/-- The notice unit state byte (R190). -/
def NoticeState.byte : NoticeState → Byte
  | .unconfigured => 0
  | .running => 1
  | .halted => 2

/-- The window state byte (R191). -/
def WindowState.byte : WindowState → Byte
  | .off => 0
  | .active => 1
  | .draining => 2
  | .closed => 3

/-- The nineteen result bytes of GET_STATUS (R190), each item as its owner holds it. R182 lets two items describe different
instants; the model's choice is that the reservations alone may, by a release still in transit (log 22). -/
def State.statusRecord (s : State) : List Byte :=
  [s.partState.byte, s.notice.state.byte]
  ++ bytes4 s.notice.produced ++ bytes4 s.notice.consumed
  ++ [s.notice.lineByte, byteOf s.stagingInUse, byteOf s.snapshotsInUse, byteOf s.interlock.table.length]
  ++ bytes2 (BitVec.ofNat 16 (s.interlock.waitingFor .conflict))
  ++ bytes2 (BitVec.ofNat 16 (s.interlock.waitingFor .tableFull))
  ++ [byteOf s.port.outstanding.length]

/-- The flags byte of a window (section 10.6). -/
def Window.flagsByte (w : Window) : Byte :=
  0#4 ++ bit w.reload ++ bit w.stamps ++ bit w.snapshots ++ bit (w.kind == .stream)

/-- The event_enables byte of a window (section 10.6). -/
def EventEnables.byte (e : EventEnables) : Byte :=
  0#4 ++ bit e.refused ++ bit e.snapshotExpired ++ bit e.wrapped ++ bit e.committed

/-- The twenty-two result bytes of GET_WINDOW (R191). -/
def Window.resultRecord (w : Window) : List Byte :=
  [w.state.byte]
  ++ bytes5 w.base ++ [byteOf w.recordWords] ++ bytes2 (BitVec.ofNat 16 w.recordCount) ++ [w.flagsByte]
  ++ bytes2 w.writerSet ++ bytes2 w.readerSet ++ [byteOf w.cls.val, w.enables.byte]
  ++ bytes2 (BitVec.ofNat 16 w.cursor) ++ bytes4 w.sequence

/-- The seventeen result bytes of GET_CLASS (R192); `carried`: the class is that of the current write (R149). -/
def NoticeClass.resultRecord (c : NoticeClass) (carried : Bool) : List Byte :=
  let window := c.first.bind (·.window)
  let record := c.first.bind (·.record)
  let initiator := c.first.bind (·.initiator)
  let sequence := c.first.bind (·.sequence)
  [byteOf c.pending, byteOf ((c.first.map (·.kind.code)).getD 0),
   0#1 ++ bit carried ++ bit c.inFlight ++ bit c.masked ++ bit sequence.isSome ++ bit initiator.isSome
     ++ bit record.isSome ++ bit window.isSome,
   byteOf ((window.map (·.val)).getD 0)]
  ++ bytes2 (BitVec.ofNat 16 (record.getD 0)) ++ [byteOf ((initiator.map (·.val)).getD 0)]
  ++ bytes4 (sequence.getD 0) ++ bytes4 ((c.first.map (·.time)).getD 0)
  ++ bytes2 (0#5 ++ c.kinds)

/-! ### Words in memory -/

/-- The four words of a notice entry (R152, R194). -/
def noticeEntry (cls : ClassId) (count : Nat) (first : Event) (kinds : BitVec 11) (producer : BitVec 32) : List Word :=
  [0#21 ++ kinds ++ 0#10 ++ bit first.window.isSome ++ BitVec.ofNat 5 ((first.window.map (·.val)).getD 0)
     ++ BitVec.ofNat 8 count ++ BitVec.ofNat 4 first.kind.code ++ BitVec.ofNat 4 cls.val,
   0#27 ++ bit first.initiator.isSome ++ BitVec.ofNat 4 ((first.initiator.map (·.val)).getD 0) ++ 0#19
     ++ bit first.record.isSome ++ BitVec.ofNat 12 (first.record.getD 0),
   0#31 ++ bit first.sequence.isSome ++ first.sequence.getD 0,
   producer ++ first.time]

/-- The layout of a stamp word (R193). -/
def stampLayout (sequence : BitVec 32) (check : BitVec 16) (writer : Initiator) : Word :=
  sequence ++ check ++ BitVec.ofNat 4 writer.val ++ 0#12

/-- The sequence field of a stamp word (R193). -/
def stampSequence (w : Word) : BitVec 32 := w.extractLsb' 32 32

/-- The check field of a stamp word (R193). -/
def stampCheck (w : Word) : BitVec 16 := w.extractLsb' 16 16

/-- The sum of the four 16-bit quarters of a data word, modulo 65536 (R114). -/
def pieceSum (w : Word) : BitVec 16 :=
  w.extractLsb' 0 16 + w.extractLsb' 16 16 + w.extractLsb' 32 16 + w.extractLsb' 48 16

/-- The check code of R114: 65535 less the sum S of the pieces, the record index and the low half of the sequence. -/
def checkCode (data : List Word) (record : Nat) (sequence : BitVec 32) : BitVec 16 :=
  65535 - ((data.map pieceSum).foldr (· + ·) 0 + BitVec.ofNat 16 record + sequence.setWidth 16)

/-- The stamp word of a commit (R115). -/
def stampWord (data : List Word) (record : Nat) (sequence : BitVec 32) (writer : Initiator) : Word :=
  stampLayout sequence (checkCode data record sequence) writer

/-- The verification of a loaded record, the stamp word last (R117). -/
def stampMatches (words : List Word) (record : Nat) : Bool :=
  let stamp := words.getLastD 0
  checkCode words.dropLast record (stampSequence stamp) == stampCheck stamp

end Sys2Proof.Machine
end

