-- ==== Sys2Proof/Machine/Ops.lean ====
section
/-! DEFINITION. The shared operations on the registers of the part: block updates, geometry (R20), events (R143), queue
entries (chapter 1), restarts (R10), drain (R29), timers (R169), and the link's answer (R177). -/

namespace Sys2Proof.Machine

/-! ### Fixed-size pools -/

/-- Every item of a pool changed alike. -/
def mapPool {α β : Type} {n : Nat} (v : Vector α n) (f : α → β) : Vector β n := Vector.ofFn fun i => f v[i]

/-- One item of a pool changed. -/
def updatePool {α : Type} {n : Nat} (v : Vector α n) (i : Fin n) (f : α → α) : Vector α n := v.set i (f v[i])

/-- The lowest-numbered item of a pool with a property. -/
def findPool {α : Type} {n : Nat} (v : Vector α n) (p : α → Bool) : Option (Fin n) :=
  (List.finRange n).find? fun i => p v[i]

/-! ### Block updates -/

def State.setWindows (s : State) (x : Vector Window 32) : State := { s with windows := x }
def State.setQueues (s : State) (x : Vector (List Entry) 16) : State := { s with queues := x }
def State.setStaging (s : State) (x : Vector StagingSlot 16) : State := { s with staging := x }
def State.setSnapshots (s : State) (x : Vector SnapshotSlot 24) : State := { s with snapshots := x }
def State.setSnapshotUses (s : State) (x : Nat) : State := { s with snapshotUses := x }
def State.setInterlock (s : State) (x : Interlock) : State := { s with interlock := x }
def State.setPort (s : State) (x : MemoryPort) : State := { s with port := x }
def State.setNotice (s : State) (x : NoticeUnit) : State := { s with notice := x }
def State.setTimeBase (s : State) (x : TimeBase) : State := { s with timeBase := x }
def State.setPartState (s : State) (x : PartState) : State := { s with partState := x }
def State.setLink (s : State) (x : Link) : State := { s with link := x }
def State.setLastResponse (s : State) (x : Option Response) : State := { s with lastResponse := x }
def State.setTransit (s : State) (x : List HandOver) : State := { s with transit := x }
def State.setHeldBack (s : State) (x : Bool) : State := { s with heldBack := x }
def State.setPending (s : State) (x : List Instr) : State := { s with pending := x }

/-! ### Time -/

/-- An event taken during the present tick (R166). -/
def State.now (s : State) : Moment := ⟨s.timeBase.counter, false⟩

/-- The closing tick of an event taken as part of a close. -/
def Moment.closing (m : Moment) : Option Tick := if m.ofClose then some m.tick else none

/-- The moment of an event that an expiry of a closing tick causes, as part of that close, or else the present one (R166). -/
def Moment.orClosing (now : Moment) (closing : Option Tick) : Moment :=
  match closing with
  | none => now
  | some t => ⟨t, true⟩

/-- A timer started by an event that reads `start`, while the counter holds `counter` (R169). -/
def startTimer (counter start : Tick) : Timer := ⟨(counter - start).toNat, none⟩

/-- The elapsed count of a timer, held at 65535 (R169). -/
def Timer.count (t : Timer) : Nat := min t.elapsed Config.elapsedCeiling

/-- The timer has reached a timeout; a timeout of 0 is never reached (R169, R170). -/
def Timer.reached (t : Timer) (timeout : Nat) : Bool := decide (0 < timeout) && decide (timeout ≤ t.count)

/-- A timer across the close of tick `closing`: it counts, and expires when its elapsed count has reached the timeout
(R169). A timer that does not run has no timeout. -/
def Timer.close (t : Timer) (timeout : Nat) (closing : Tick) : Timer :=
  { elapsed := t.elapsed + 1
    expired := match t.expired with
      | some c => some c
      | none => if t.reached timeout then some closing else none }

/-! ### Windows -/

/-- Record size in bytes (R20). -/
def Window.recordSize (w : Window) : Nat := w.recordWords * 8

/-- Window size in bytes (R20). -/
def Window.size (w : Window) : Nat := w.recordSize * w.recordCount

/-- First byte address above the range (R20). -/
def Window.endAddress (w : Window) : Nat := w.base.toNat + w.size

/-- The range holds the address (R20). -/
def Window.contains (w : Window) (a : Addr) : Bool := decide (w.base.toNat ≤ a.toNat) && decide (a.toNat < w.endAddress)

/-- Address of the lead word of record r (R20). -/
def Window.leadAddress (w : Window) (r : Nat) : Addr := BitVec.ofNat 40 (w.base.toNat + r * w.recordSize)

/-- Record index of an address in the range (R21). -/
def Window.recordOf (w : Window) (a : Addr) : Nat := (a.toNat - w.base.toNat) / w.recordSize

/-- Word offset of an address in the range (R21). -/
def Window.offsetOf (w : Window) (a : Addr) : Nat := (a.toNat - w.base.toNat) % w.recordSize / 8

/-- Number of data offsets of a record (R45). -/
def Window.dataWords (w : Window) : Nat := if w.stamps then w.recordWords - 1 else w.recordWords

/-- Initiator n is in the set. -/
def memberOf (set : BitVec 16) (n : Initiator) : Bool := set.getLsbD n.val

/-- The window of a word: the window that is not OFF and whose range holds the address (R21). -/
def State.matchWindow (s : State) (a : Addr) : Option WindowId :=
  findPool s.windows fun w => w.state != .off && w.contains a

/-- One window entry changed. -/
def State.updateWindow (s : State) (w : WindowId) (f : Window → Window) : State :=
  s.setWindows (updatePool s.windows w f)

/-! ### Events -/

/-- A class takes an event (R143). -/
def NoticeClass.take (c : NoticeClass) (e : Event) : NoticeClass :=
  { c with
    first := if c.pending = 0 then some e else c.first
    pending := if c.pending < Config.pendingCeiling then c.pending + 1 else c.pending
    kinds := c.kinds ||| e.kind.mask }

/-- A block hands something to another (R182, log 8). -/
def State.handOver (s : State) (h : HandOver) : State := s.setTransit (s.transit ++ [h])

/-- An event is raised to a class: it is handed to the notice unit (R143). -/
def State.raise (s : State) (cls : ClassId) (e : Event) : State := s.handOver (.event cls e)

/-- An event reaches its class (R143). -/
def State.countEvent (s : State) (cls : ClassId) (e : Event) : State :=
  s.setNotice { s.notice with classes := updatePool s.notice.classes cls fun c => c.take e }

/-- An event that names a window is raised to that window's class (R144). -/
def State.raiseWindow (s : State) (w : WindowId) (e : Event) : State := s.raise s.windows[w].cls e

/-- An event of an optional kind, raised when enabled (R144). -/
def State.raiseIf (s : State) (enabled : Bool) (w : WindowId) (e : Event) : State :=
  if enabled then s.raiseWindow w e else s

/-! ### Queue entries -/

/-- Address of word i of a request (section 1.1). -/
def Entry.wordAddress (e : Entry) (i : Nat) : Addr := e.address + BitVec.ofNat 40 (8 * i)

/-- Word i of a WRITE. -/
def Entry.writeWord (e : Entry) (i : Nat) : Option WriteWord :=
  match e.transfer with
  | .read _ => none
  | .write ws => ws[i]?

/-- The outcome is a response code. -/
def WordOutcome.coded : WordOutcome → Bool
  | .answered _ _ => true
  | .unknown => false
  | .pending => false

/-- An entry whose every outcome is a code is DONE (R13). -/
def Entry.settle (e : Entry) : Entry := if e.outcomes.all (·.coded) then { e with state := .done } else e

/-- The data word of an outcome: the word supplied for OK, zero for any other code (R16). -/
def answeredWith (code : Code) (data : Word) : WordOutcome := .answered code (if code = .ok then data else 0)

/-- A word outcome arrives (R5, R13). -/
def Entry.answer (e : Entry) (position : Nat) (code : Code) (data : Word) : Entry :=
  { e with outcomes := e.outcomes.set position (answeredWith code data) }.settle

/-- Entries with the tag changed. -/
def updateTagged (q : List Entry) (tag : Fin 4) (f : Entry → Entry) : List Entry :=
  q.map fun e => if e.tag = tag then f e else e

/-- The entry of queue n with the tag changed. -/
def State.updateEntry (s : State) (n : Initiator) (tag : Fin 4) (f : Entry → Entry) : State :=
  s.setQueues (updatePool s.queues n fun q => updateTagged q tag f)

/-- The entry of queue n with the tag. -/
def State.entry (s : State) (n : Initiator) (tag : Fin 4) : Option Entry := s.queues[n].find? fun e => e.tag == tag

/-- A serving block sets a word's outcome (R5). -/
def State.answer (s : State) (r : WordRef) (code : Code) (data : Word) : State :=
  s.updateEntry r.initiator r.tag fun e => e.answer r.position code data

/-- Words answered with one code, in order, with their data words for a READ answered OK. -/
def State.answerEach (s : State) (refs : List WordRef) (code : Code) (data : List Word) : State :=
  match refs with
  | [] => s
  | r :: rs => (s.answer r code (data.headD 0)).answerEach rs code data.tail

/-- Every word of the entry has been routed (R3). -/
def Entry.routed (e : Entry) : Bool := e.position == e.transfer.length

/-- The entry does not keep a younger one from starting (R3). -/
def Entry.letsNextStart (e : Entry) : Bool := e.state == .done || (e.state == .inProgress && e.routed)

/-- The entry is routing words (R4). -/
def Entry.routing (e : Entry) : Bool := e.state == .inProgress && decide (e.position < e.transfer.length)

/-- The hold of a HELD entry. -/
def Entry.hold (e : Entry) : Option Hold :=
  match e.state with
  | .held h => some h
  | .waiting => none
  | .inProgress => none
  | .done => none

/-- Unrouted words answered with a code, none of them having an effect (R12, R17). -/
def Entry.abandonUnrouted (e : Entry) (code : Code) : Entry :=
  { e with
    outcomes := e.outcomes.map fun o => if o = WordOutcome.unknown then .answered code 0 else o
    position := e.transfer.length
    state := .inProgress }.settle

/-- Badness of a response code, the worst highest (R13). -/
def Code.badness : Code → Nat
  | .ok => 0
  | .refused => 1
  | .expired => 2
  | .memError => 3
  | .badCheck => 4
  | .aborted => 5

/-- The worse of two codes (R13). -/
def Code.worse (a b : Code) : Code := if a.badness < b.badness then b else a

/-- The code of an outcome, OK for one without a code. -/
def WordOutcome.code : WordOutcome → Code
  | .answered c _ => c
  | .unknown => .ok
  | .pending => .ok

/-- The data word of an outcome. -/
def WordOutcome.dataWord : WordOutcome → Word
  | .answered _ d => d
  | .unknown => 0
  | .pending => 0

/-- The response code of a DONE entry: the worst among its words (R13). -/
def Entry.responseCode (e : Entry) : Code := e.outcomes.foldr (fun o c => Code.worse o.code c) .ok

/-- The response of a DONE entry (R16). -/
def Entry.response (e : Entry) (n : Initiator) : Response :=
  { initiator := n, code := e.responseCode
    data := match e.transfer with
      | .read _ => some (e.outcomes.map (·.dataWord))
      | .write _ => none }

/-- The moment an entry's routing reads: that of the close whose expiry set it going, or the present tick (R166, log 7). -/
def Entry.moment (e : Entry) (now : Moment) : Moment := now.orClosing e.closing

/-- The queue with its oldest WAITING entry, which may start now, to start as part of a close (R166, R3,
log 7). -/
def startAtClose (t : Tick) (q : List Entry) : List Entry :=
  match q with
  | [] => []
  | e :: rest => if e.state = .waiting then { e with closing := some t } :: rest else e :: startAtClose t rest

/-- An entry of queue n no longer keeps the next from starting; when that is part of a close, so is the start it causes
(R166, R3). -/
def State.passClosing (s : State) (n : Initiator) (m : Moment) : State :=
  if m.ofClose then s.setQueues (updatePool s.queues n (startAtClose m.tick)) else s

/-- The lowest tag no entry of the queue has (log 14). -/
def freeTag (q : List Entry) : Fin 4 := ((List.finRange 4).find? fun t => !q.any fun e => e.tag == t).getD 0

/-! ### Restarts -/

/-- A restart event reaches a held word (R10). An earlier restart that is still owed stands (log 7). -/
def RestartDue.mark (r : RestartDue) (m : Moment) : RestartDue :=
  match r with
  | .none => if m.ofClose then .owedAtClose m.tick else .owed
  | .owed => .owed
  | .owedAtClose t => .owedAtClose t

/-- A HELD entry whose hold has the property is owed a restart. -/
def Entry.markRestart (e : Entry) (p : Hold → Bool) (m : Moment) : Entry :=
  match e.state with
  | .held h => if p h then { e with state := .held { h with restart := h.restart.mark m } } else e
  | .waiting => e
  | .inProgress => e
  | .done => e

/-- Every held word whose hold has the property is owed a restart (R10). -/
def State.markRestarts (s : State) (p : Hold → Bool) (m : Moment) : State :=
  s.setQueues (mapPool s.queues fun q => q.map fun e => e.markRestart p m)

/-! ### Slots and the drain -/

/-- The record of a staging slot in use. -/
def StagingSlot.target : StagingSlot → Option RecordId
  | .free => none
  | .filling g _ => some g.target
  | .committing g _ => some g.target

/-- What a snapshot slot in use holds in both its states. -/
def SnapshotSlot.info : SnapshotSlot → Option SnapshotInfo
  | .free => none
  | .loading i _ _ _ => some i
  | .held i _ _ => some i

/-- The staging slot in use for a record (R46). -/
def State.stagingFor (s : State) (r : RecordId) : Option (Fin 16) := findPool s.staging fun x => x.target == some r

/-- The lowest-numbered FREE staging slot (R47). -/
def State.freeStagingSlot (s : State) : Option (Fin 16) := findPool s.staging fun x => x == .free

/-- The lowest-numbered FREE snapshot slot (R87). -/
def State.freeSnapshotSlot (s : State) : Option (Fin 24) := findPool s.snapshots fun x => x == .free

/-- The reader's slot for a record (R90). -/
def State.snapshotFor (s : State) (n : Initiator) (r : RecordId) : Option (Fin 24) :=
  findPool s.snapshots fun x => x.info.any fun i => i.reader == n && i.target == r

/-- The reader's slot in a window (R88). -/
def State.snapshotIn (s : State) (n : Initiator) (w : WindowId) : Option (Fin 24) :=
  findPool s.snapshots fun x => x.info.any fun i => i.reader == n && i.target.window == w

/-- The window owns a slot (section 2.3). -/
def State.ownsSlot (s : State) (w : WindowId) : Bool :=
  (s.staging.toList.any fun x => x.target.any fun r => r.window == w)
    || s.snapshots.toList.any fun x => x.info.any fun i => i.target.window == w

/-- The drain check: a DRAINING window that owns no slot becomes OFF, raises DRAINED, and its held words restart
(R29, R10). DRAINED and those restarts read the tick in which the check is taken, or the closing tick of the expiry that freed
the slot: the model's choice where a tick closes between the slot's freeing and a check that is held back (log 24). -/
def State.drainCheck (s : State) (w : WindowId) (m : Moment) : State :=
  if s.windows[w].state = .draining && !s.ownsSlot w then
    ((s.updateWindow w fun x => { x with state := .off }).raiseWindow w ⟨.drained, some w, none, none, none, m.tick⟩).markRestarts
      (fun h => h.target.window == w) m
  else s

/-- A staging slot becomes FREE, with the effects of R55: NO_STAGING restarts, RECORD_BUSY restarts on its record, and
the drain check, which the window table takes separately (R41). -/
def State.freeStaging (s : State) (slot : Fin 16) (m : Moment) : State :=
  match s.staging[slot].target with
  | none => s
  | some r =>
    ((s.setStaging (s.staging.set slot .free)).markRestarts
      (fun h => h.reason == .noStaging || (h.reason == .recordBusy && h.target == r)) m).handOver (.slotFreed r.window m.closing)

/-! ### The link -/

/-- The part answers a frame (R176, R177). -/
def State.respond (s : State) (status : Status) (results : List Byte) : State :=
  s.setLink { s.link with response := some (responseBytes status results) }

/-- CS_N rises on a frame that has no command taken: no response, and no frame in progress (R178, R180). -/
def State.cutFrame (s : State) : State := s.setLink ⟨none, false⟩

/-- Why a command is answered before its own rule is looked at: a damaged frame (R177), or the part CLEARING for every
command but GET_STATUS (R181). -/
def State.linkRefusal (s : State) (frame : List Byte) : Option Status :=
  if !frameSound frame then some .badFrame else if s.partState = .clearing then some .busy else none

end Sys2Proof.Machine
end

