-- ==== Sys2Proof/Machine/Interlock.lean ====
section
/-! DEFINITION. The record interlock (chapter 4): arrival, taking, scans, release and withdrawal of operations; the
release of snapshot slots (R89), whose LOADs it holds; and the hand-over of a queue entry's run (R5, R6). -/

namespace Sys2Proof.Machine

/-- No record of the list appears in any of the lists (R70). -/
def recordsFree (records : List RecordId) (others : List (List RecordId)) : Bool :=
  records.all fun r => !others.any fun o => o.contains r

/-- Conditions 1 and 2 of R70: the records are in no reservation and in no older waiting operation. -/
def unblocked (records : List RecordId) (table : List Reservation) (older : List WaitItem) : Bool :=
  recordsFree records (table.map (·.records)) && recordsFree records (older.map (·.records))

/-- Condition 3 of R70: a table entry is free. -/
def tableHasRoom (table : List Reservation) : Bool := decide (table.length < Config.reservations)

/-- The lowest number no reservation has (log 14). -/
def freeReservationId (table : List Reservation) : Fin 8 :=
  ((List.finRange 8).find? fun i => !table.any fun r => r.id == i).getD 0

/-- The reservation with a number. -/
def State.reservation (s : State) (id : Fin 8) : Option Reservation := s.interlock.table.find? fun r => r.id == id

/-- A reservation is made, with its burst not in flight, after every reservation of the table (R70). -/
def State.reserve (s : State) (owner : ReservationOwner) (records : List RecordId) (burst : Burst) : State :=
  s.setInterlock { s.interlock with
    table := s.interlock.table ++ [⟨freeReservationId s.interlock.table, owner, records, false, false, burst⟩] }

/-- One reservation changed. -/
def State.updateReservation (s : State) (id : Fin 8) (f : Reservation → Reservation) : State :=
  s.setInterlock { s.interlock with table := s.interlock.table.map fun r => if r.id = id then f r else r }

/-! ### Taking -/

/-- The data words of a complete slot, in offset order (R76). -/
def Gather.dataWords (g : Gather) (count : Nat) : List Word := (g.words.toList.take count).map fun w => w.getD 0

/-- The words a commit writes: the data words, then the stamp word in a stamped window (R76, R115). -/
def commitWords (w : Window) (g : Gather) (sequence : BitVec 32) : List Word :=
  let data := g.dataWords w.dataWords
  if w.stamps then data ++ [stampWord data g.target.record sequence g.owner] else data

/-- The commit burst of a record: all eight lanes enabled in every word (R76). -/
def commitBurst (w : Window) (g : Gather) (sequence : BitVec 32) : Burst :=
  .write (w.leadAddress g.target.record) ((commitWords w g sequence).map fun d => ⟨d, 0xFF⟩)

/-- A COMMIT is taken: the window's sequence rises by one and becomes the slot's, and the burst is fixed with its stamp
word (R75, R76). -/
def State.takeCommit (s : State) (slot : Fin 16) (records : List RecordId) : State :=
  match s.staging[slot] with
  | .committing g info =>
    let sequence := s.windows[g.target.window].sequence + 1
    (((s.updateWindow g.target.window fun w => { w with sequence := sequence }).setStaging
        (s.staging.set slot (.committing g { info with sequence := some sequence }))).reserve (.commit slot) records
      (commitBurst s.windows[g.target.window] g sequence))
  | .free => s.reserve (.commit slot) records (.write 0 [])
  | .filling _ _ => s.reserve (.commit slot) records (.write 0 [])

/-- A LOAD is taken: it requests a read burst of the whole record (R97). -/
def State.takeLoad (s : State) (slot : Fin 24) (records : List RecordId) : State :=
  match s.snapshots[slot].info with
  | some i =>
    let w := s.windows[i.target.window]
    s.reserve (.load (some slot)) records (.read (w.leadAddress i.target.record) w.recordWords)
  | none => s.reserve (.load (some slot)) records (.read 0 0)

/-- One direct list changed (R130). -/
def State.updateDirect (s : State) (n : Initiator) (f : List DirectItem → List DirectItem) : State :=
  s.setPort { s.port with direct := updatePool s.port.direct n f }

/-- A DIRECT operation is taken: its read burst joins its initiator's direct list (R82). -/
def State.takeDirect (s : State) (n : Initiator) (words : List WordRef) (address : Addr) (records : List RecordId) : State :=
  (s.reserve (.direct words) records (.read address words.length)).updateDirect n
    fun l => l ++ [.windowRead (freeReservationId s.interlock.table)]

/-- An operation is taken into the reservation table (R70). -/
def State.take (s : State) (owner : OpOwner) (records : List RecordId) : State :=
  match owner with
  | .commit slot => s.takeCommit slot records
  | .load slot => s.takeLoad slot records
  | .direct n words address => s.takeDirect n words address records

/-! ### Arrival, scan, release, withdrawal -/

/-- The wait list replaced. -/
def State.setWaitList (s : State) (l : List WaitItem) : State := s.setInterlock { s.interlock with waitList := l }

/-- An operation arrives: it is taken at once, or joins the tail of the wait list with its reason (R69, R70, R72). -/
def State.arrive (s : State) (owner : OpOwner) (records : List RecordId) : State :=
  if unblocked records s.interlock.table s.interlock.waitList then
    if tableHasRoom s.interlock.table then s.take owner records
    else s.setWaitList (s.interlock.waitList ++ [⟨owner, records, .tableFull⟩])
  else s.setWaitList (s.interlock.waitList ++ [⟨owner, records, .conflict⟩])

/-- The scan of the waiting operations, oldest first, those already passed over standing before them (R71). No grant comes
between the bursts that one scan makes join their requesters: the model's choice between the orders of R136 (log 25). -/
def State.scanFrom (s : State) (passed : List WaitItem) (waiting : List WaitItem) : State :=
  match waiting with
  | [] => s.setWaitList passed
  | item :: rest =>
    if !tableHasRoom s.interlock.table then s.setWaitList (passed ++ item :: rest)
    else if unblocked item.records s.interlock.table passed then (s.take item.owner item.records).scanFrom passed rest
    else s.scanFrom (passed ++ [item]) rest

/-- A scan of the wait list (R71). -/
def State.scan (s : State) : State := s.scanFrom [] s.interlock.waitList

/-- A reservation is released, and a scan follows (R73). -/
def State.release (s : State) (id : Fin 8) : State :=
  (s.setInterlock { s.interlock with table := s.interlock.table.filter fun r => r.id != id }).scan

/-- A reservation whose load's slot has gone becomes an orphaned load (R105). -/
def Reservation.orphan (r : Reservation) (slot : Fin 24) : Reservation :=
  if r.owner = .load (some slot) then { r with owner := .load none } else r

/-- The LOAD of a slot that is released: withdrawn when it still waits, with a scan (R74), orphaned when it has been
taken (R105). -/
def State.giveUpLoad (s : State) (slot : Fin 24) : State :=
  if s.interlock.waitList.any fun x => x.owner == .load slot then
    (s.setWaitList (s.interlock.waitList.filter fun x => x.owner != .load slot)).scan
  else s.setInterlock { s.interlock with table := s.interlock.table.map fun r => r.orphan slot }

/-! ### Snapshot slots -/

/-- A snapshot slot becomes FREE, with the effects of R89: its LOAD, NO_SNAPSHOT restarts, and the drain check, which the
window table takes separately. -/
def State.freeSnapshot (s : State) (slot : Fin 24) (m : Moment) : State :=
  match s.snapshots[slot].info with
  | none => s
  | some i =>
    (((s.setSnapshots (s.snapshots.set slot .free)).giveUpLoad slot).markRestarts
      (fun h => h.reason == .noSnapshot) m).handOver (.slotFreed i.target.window m.closing)

/-- The direct window reads that replace the waiting words of a released LOADING slot: one operation per queue entry,
in the order in which the entries first waited (R94). -/
def rerouted (waiting : List WaitingWord) : List (List WaitingWord) :=
  ((waiting.map fun x => x.word.tag).eraseDups).map fun t => waiting.filter fun x => x.word.tag == t

/-- One entry's waiting words arrive at the interlock as a direct window read of the slot's record (R94). -/
def State.arriveRerouted (s : State) (i : SnapshotInfo) (group : List WaitingWord) : State :=
  let w := s.windows[i.target.window]
  let offset := (group.head?.map (·.offset)).getD 0
  s.arrive (.direct i.reader (group.map (·.word)) (w.leadAddress i.target.record + BitVec.ofNat 40 (8 * offset))) [i.target]

/-- The re-routed groups arrive in order. -/
def State.arriveEach (s : State) (i : SnapshotInfo) (groups : List (List WaitingWord)) : State :=
  match groups with
  | [] => s
  | g :: gs => (s.arriveRerouted i g).arriveEach i gs

/-- A slot is released by its reader's latch (R94). The direct reads arrive before the LOAD is given up (log 11). -/
def State.releaseByLatch (s : State) (slot : Fin 24) (m : Moment) : State :=
  match s.snapshots[slot] with
  | .free => s
  | .held _ _ _ => s.freeSnapshot slot m
  | .loading i _ _ waiting => (s.arriveEach i (rerouted waiting)).freeSnapshot slot m

/-! ### Runs -/

/-- The memory operation of a pass-through run: of the request's kind, with each word's data and lanes as given (R6). -/
def Entry.runBurst (e : Entry) (r : Run) : Burst :=
  match e.transfer with
  | .read _ => .read (e.wordAddress r.first) r.count
  | .write ws => .write (e.wordAddress r.first) ((ws.drop r.first).take r.count)

/-- The words of a run. -/
def Run.refs (r : Run) (n : Initiator) (tag : Fin 4) : List WordRef :=
  (List.range r.count).map fun i => ⟨n, tag, r.first + i⟩

/-- A run ends and is handed over: a pass-through run to the DIRECT requester (R6), a direct-read run to the interlock
as one DIRECT operation (R5, R81). -/
def State.handOverRun (s : State) (n : Initiator) (tag : Fin 4) : State :=
  match s.entry n tag with
  | none => s
  | some e =>
    match e.run with
    | none => s
    | some r =>
      let s1 := s.updateEntry n tag fun x => { x with run := none }
      match r.window with
      | none => s1.updateDirect n fun l => l ++ [.passThrough (e.runBurst r) (r.refs n tag)]
      | some _ => s1.arrive (.direct n (r.refs n tag) (e.wordAddress r.first)) r.records

end Sys2Proof.Machine
end

