-- ==== Sys2Proof/Machine/HandOvers.lean ====
section
/-! DEFINITION. The hand-overs between blocks (R182, log 8): how each is taken, and how a command stands to the hand-overs in
transit before it; the link's frames (R176 to R181), which are commands of that kind. -/

namespace Sys2Proof.Machine

/-! ### Taking a hand-over -/

/-- The block a hand-over is for takes it: the class counts the event (R143), the window table makes its drain check (R29),
in the present tick or as part of the close whose expiry freed the slot (R166), the interlock releases the reservation and
scans (R73). -/
def State.takeHandOver (s : State) (h : HandOver) : State :=
  match h with
  | .event cls e => s.countEvent cls e
  | .slotFreed w closing => s.drainCheck w (s.now.orClosing closing)
  | .release id => s.release id

/-- Hand-overs taken one after another. -/
def State.takeHandOvers (s : State) (l : List HandOver) : State :=
  match l with
  | [] => s
  | h :: rest => (s.takeHandOver h).takeHandOvers rest

/-- The hand-overs in transit are taken, then the DRAINED events that their drain checks raised. -/
def State.takeTransit (s : State) : State :=
  let t := (s.setTransit []).takeHandOvers s.transit
  (t.setTransit []).takeHandOvers t.transit

/-- The oldest hand-over alone is taken, and the next command comes before the others. Of two such steps the first only holds
the hand-overs back (log 8). -/
def State.takeOldest (s : State) : State :=
  match s.transit with
  | [] => s
  | h :: rest => if s.heldBack then (s.setTransit rest).takeHandOver h else s.setHeldBack true

/-! ### Commands and hand-overs -/

/-- A command's act before the hand-overs in transit, which stay there ahead of its own. -/
def State.overtake (s : State) (act : State → State) : State :=
  let t := act ((s.setTransit []).setHeldBack false)
  t.setTransit (s.transit ++ t.transit)

/-- A command's act, with RST_N high: after the hand-overs in transit, or before them when they are held back. While RST_N is
low no block takes anything (R19, R66, R86, R111, R140, R165). -/
def State.event (s : State) (act : State → State) : State :=
  if s.rstN then if s.heldBack then s.overtake act else act s.takeTransit else s

/-- An act that no hand-over comes after: those in transit are taken before it, held back or not (R85, R186). -/
def State.eventLast (s : State) (act : State → State) : State :=
  if s.rstN then act (s.setHeldBack false).takeTransit else s

/-- Hand-overs taken one after another, with a test before each and after the last. -/
def State.takeTesting (s : State) (test : State → State) (l : List HandOver) : State :=
  match l with
  | [] => test s
  | h :: rest => ((test s).takeHandOver h).takeTesting test rest

/-- A command that is a block's own test, which the block makes as each hand-over reaches it (R150). -/
def State.testEvent (s : State) (test : State → State) : State :=
  if s.rstN then
    if s.heldBack then s.overtake test
    else
      let t := (s.setTransit []).takeTesting test s.transit
      (t.setTransit []).takeTesting test t.transit
  else s

/-! ### Frames of the link -/

/-- A frame (R176). While RST_N is low the link takes no command, and the frame stays in progress until its CS_N rises; a
frame in progress since then is discarded whole (R180, log 13). -/
def State.frame (s : State) (taken : State → State) : State :=
  if s.rstN then s.event fun t => if t.link.heldLow then t.cutFrame else taken t
  else s.setLink ⟨none, true⟩

/-- A link command other than GET_STATUS with `results` result bytes: the refusals of R177 and R181 with zero results, or
`own`, the command's own rule. -/
def State.linkCommand (s : State) (frame : List Byte) (results : Nat) (own : State → State) : State :=
  s.frame fun t => match t.linkRefusal frame with
    | some status => t.respond status (List.replicate results 0)
    | none => own t

end Sys2Proof.Machine
end

