-- ==== Sys2Proof/Machine/Requests.lean ====
section
/-! DEFINITION. The initiator port's own commands: REQUEST_TAKEN, ENTRY_START, HOLD_EXPIRY, RESPONSE_RETURN
(chapter 1). -/

namespace Sys2Proof.Machine

/-- Position of an address in its aligned 64-byte block, in words (R2). -/
def blockPosition (a : Addr) : Nat := a.toNat % 64 / 8

/-- The request crosses a 64-byte boundary (R2). -/
def crossesBoundary (a : Addr) (length : Nat) : Bool := decide (8 < blockPosition a + length)

/-- The entry of a request taken (R1), or of one refused at the boundary (R2). -/
def newEntry (tag : Fin 4) (address : Addr) (transfer : Transfer) : Entry :=
  if crossesBoundary address transfer.length then
    { tag := tag, address := address, transfer := transfer, state := .done, position := 0
      outcomes := List.replicate transfer.length (.answered .refused 0), run := none, closing := none }
  else
    { tag := tag, address := address, transfer := transfer, state := .waiting, position := 0
      outcomes := List.replicate transfer.length .unknown, run := none, closing := none }

/-- The request is appended at the tail of its queue (R1, R2). -/
def State.takeRequest (s : State) (n : Initiator) (address : Addr) (transfer : Transfer) : State :=
  let s1 := s.setQueues (updatePool s.queues n fun q => q ++ [newEntry (freeTag q) address transfer])
  if crossesBoundary address transfer.length then
    s1.raise s.notice.faultClass ⟨.refused, none, none, some n, none, s.timeBase.counter⟩
  else s1

/-- REQUEST_TAKEN (R1): a request that the port does not take stays on the interconnect. -/
def execRequestTaken (n : Initiator) (address : Addr) (transfer : Transfer) (s : State) :
    Host.Outcome State Fault Refusal :=
  if requestWellFormed address transfer then
    .next (s.event fun t => if t.ready n then t.takeRequest n address transfer else t)
  else .fault .illFormed

/-- The queue with its oldest WAITING entry started, when every older entry lets it start (R3). -/
def startOldest (q : List Entry) : List Entry :=
  match q with
  | [] => []
  | e :: rest =>
    if e.state = .waiting then { e with state := .inProgress } :: rest
    else if e.letsNextStart then e :: startOldest rest
    else e :: rest

/-- ENTRY_START (R3). -/
def execEntryStart (n : Initiator) (s : State) : Host.Outcome State Fault Refusal :=
  .next (s.event fun t => t.setQueues (updatePool t.queues n startOldest))

/-- The hold of an entry expires at a closing tick: the held word and every later word are EXPIRED, and HOLD_EXPIRED is
raised whatever the enables; the next entry may start, as part of the same close (R12, R3, R166). -/
def State.expireHold (s : State) (n : Initiator) (e : Entry) (h : Hold) (closing : Tick) : State :=
  ((s.updateEntry n e.tag fun x => x.abandonUnrouted .expired).raiseWindow h.target.window
    ⟨.holdExpired, some h.target.window, some h.target.record, some n, none, closing⟩).passClosing n ⟨closing, true⟩

/-- The expiry of queue n's HELD entry, if a tick close has expired its hold timer (R12, R169). -/
def State.holdTimeout (s : State) (n : Initiator) : State :=
  match s.queues[n].find? fun e => e.hold.isSome with
  | none => s
  | some e =>
    match e.hold with
    | none => s
    | some h =>
      match h.timer.expired with
      | some closing => s.expireHold n e h closing
      | none => s

/-- HOLD_EXPIRY (R12, R169). -/
def execHoldExpiry (n : Initiator) (s : State) : Host.Outcome State Fault Refusal :=
  .next (s.event fun t => t.holdTimeout n)

/-- The DONE entry at the head of queue n leaves with its response (R15). -/
def State.returnHead (s : State) (n : Initiator) : State :=
  match s.queues[n] with
  | [] => s
  | e :: rest =>
    if e.state = .done then (s.setQueues (s.queues.set n rest)).setLastResponse (some (e.response n)) else s

/-- RESPONSE_RETURN (R15, R16). -/
def execResponseReturn (n : Initiator) (s : State) : Host.Outcome State Fault Refusal :=
  .next (s.event fun t => t.returnHead n)

end Sys2Proof.Machine
end

