-- ==== Sys2Proof/Machine/Routing.lean ====
section
/-! DEFINITION. The routing of a word: the matcher's choice of a path (R21, R22, R32, R33, R46, R90) and what the path
does (chapters 1 to 5), with the commands ROUTE_WORD and RESTART. -/

namespace Sys2Proof.Machine

/-- The path of a word (R4). -/
inductive Path
  | refused (target : RecordId)
  | passThrough
  | store (slot : Fin 16) (offset : Nat) (data : Word)
  | openSlot (slot : Fin 16) (target : RecordId) (offset : Nat) (data : Word)
  | hold (reason : HoldReason) (target : RecordId)
  | serve (slot : Fin 24) (offset : Nat)
  | wait (slot : Fin 24) (offset : Nat)
  | latch (target : RecordId)
  | direct (target : RecordId)
deriving DecidableEq, Repr

/-! ### The choice of a path -/

/-- The access checks on a WRITE word (R32). -/
def Window.refusesWrite (w : Window) (n : Initiator) (lanes : Byte) (record offset : Nat) : Bool :=
  !memberOf w.writerSet n || lanes != 0xFF || (w.stamps && offset + 1 == w.recordWords) || w.state == .closed
    || (w.kind == .stream && record != w.cursor)

/-- The path of a write that has passed the access checks (R46). -/
def State.writePath (s : State) (n : Initiator) (r : RecordId) (offset : Nat) (data : Word) : Path :=
  match s.stagingFor r with
  | some slot =>
    (match s.staging[slot] with
      | .filling g _ => if g.owner = n then .store slot offset data else .hold .recordBusy r
      | .committing _ _ => .hold .recordBusy r
      | .free => .hold .recordBusy r)
  | none =>
    if s.windows[r.window].state = .draining then .hold .draining r
    else match s.freeStagingSlot with
      | some slot => .openSlot slot r offset data
      | none => .hold .noStaging r

/-- The snapshot slots a reader holds (R88). -/
def State.readerSlots (s : State) (n : Initiator) : List (Fin 24) :=
  (List.finRange 24).filter fun i => s.snapshots[i].info.any fun x => x.reader == n

/-- A latch that releases nothing finds no FREE slot (R95). -/
def State.latchMustHold (s : State) (n : Initiator) (w : WindowId) : Bool :=
  s.freeSnapshotSlot.isNone && (s.snapshotIn n w).isNone && decide ((s.readerSlots n).length < Config.slotsPerReader)

/-- The path of a read that has passed the reader_set check (R22, R90). -/
def State.readPath (s : State) (n : Initiator) (r : RecordId) (offset : Nat) : Path :=
  if !s.windows[r.window].snapshots then .direct r
  else match s.snapshotFor n r with
    | some slot =>
      (match s.snapshots[slot] with
        | .loading _ _ _ _ => .wait slot offset
        | .held _ _ _ => .serve slot offset
        | .free => .direct r)
    | none =>
      if offset ≠ 0 then .direct r
      else if s.windows[r.window].state = .draining then .hold .draining r
      else if s.latchMustHold n r.window then .hold .noSnapshot r
      else .latch r

/-- The matcher's decision on the word at the entry's routing position (R21, R22). -/
def State.routePath (s : State) (n : Initiator) (e : Entry) : Path :=
  let a := e.wordAddress e.position
  match s.matchWindow a with
  | none => .passThrough
  | some w =>
    let window := s.windows[w]
    let r : RecordId := ⟨w, window.recordOf a⟩
    match e.transfer with
    | .read _ => if memberOf window.readerSet n then s.readPath n r (window.offsetOf a) else .refused r
    | .write ws =>
      match ws[e.position]? with
      | some word =>
        if window.refusesWrite n word.lanes r.record (window.offsetOf a) then .refused r
        else s.writePath n r (window.offsetOf a) word.data
      | none => .refused r

/-! ### The entry across the routing of its word -/

/-- The word is settled with a code: the routing position advances (R4, R13). -/
def Entry.settleWord (e : Entry) (code : Code) (data : Word) : Entry :=
  { e with
    outcomes := e.outcomes.set e.position (answeredWith code data), position := e.position + 1
    state := .inProgress }.settle

/-- The word is pending: the routing position advances (R4). -/
def Entry.pendWord (e : Entry) : Entry :=
  { e with outcomes := e.outcomes.set e.position .pending, position := e.position + 1, state := .inProgress }

/-- The run with one more word; a direct-read run names each record once (R5, R6, R81). -/
def extendRun (run : Option Run) (window : Option WindowId) (position : Nat) (target : Option RecordId) : Run :=
  match run with
  | some r => { r with
      count := r.count + 1
      records := match target with
        | some t => if r.records.contains t then r.records else r.records ++ [t]
        | none => r.records }
  | none => ⟨window, position, 1, target.toList⟩

/-- The word joins the run being formed and is pending (R5, R6). -/
def Entry.joinRun (e : Entry) (window : Option WindowId) (target : Option RecordId) : Entry :=
  { e.pendWord with run := some (extendRun e.run window e.position target) }

/-- The word holds: the entry is HELD with the reason; a word that was held keeps its hold start and timer (R9, R10). -/
def Entry.holdWord (e : Entry) (reason : HoldReason) (target : RecordId) (counter : Tick) (m : Moment) : Entry :=
  { e with
    state := .held (match e.hold with
      | some h => { h with reason := reason, target := target, restart := .none }
      | none => ⟨reason, target, m.tick, startTimer counter m.tick, .none⟩) }

/-- The run goes on with this path (R5, R6); with no run there is nothing to end. -/
def Path.continues (p : Path) (run : Option Run) : Bool :=
  match run with
  | none => true
  | some r =>
    match p with
    | .passThrough => r.window == none
    | .direct t => r.window == some t.window
    | .refused _ | .store _ _ _ | .openSlot _ _ _ _ | .hold _ _ | .serve _ _ | .wait _ _ | .latch _ => false

/-! ### What the paths do -/

/-- Every data offset of the record is present (R45). -/
def Gather.complete (g : Gather) (w : Window) : Bool := (g.words.toList.take w.dataWords).all (·.isSome)

/-- A write is stored in a slot (R48); a completing word makes the slot COMMITTING and its commit arrives (R49). -/
def State.storeWord (s : State) (ref : WordRef) (slot : Fin 16) (g : Gather) (timer : Timer) (offset : Nat) (data : Word) :
    State :=
  let stored : Gather := { g with words := g.words.setIfInBounds offset (some data) }
  if stored.complete s.windows[g.target.window] then
    (((s.setStaging (s.staging.set slot (.committing stored ⟨ref, false, none⟩))).updateEntry ref.initiator ref.tag
      Entry.pendWord).arrive (.commit slot) [g.target])
  else
    (s.setStaging (s.staging.set slot (.filling stored timer))).updateEntry ref.initiator ref.tag
      fun e => e.settleWord .ok 0

/-- A newly opened slot (R47). -/
def newGather (target : RecordId) (n : Initiator) (openTime : Tick) : Gather :=
  ⟨target, n, Vector.replicate 32 none, openTime⟩

/-- A HELD slot's word at an offset. -/
def SnapshotSlot.wordAt (x : SnapshotSlot) (offset : Nat) : Word :=
  match x with
  | .held _ words _ => words[offset]?.getD 0
  | .free => 0
  | .loading _ _ _ _ => 0

/-- The slot across the serving of a word: the offset joins the read set and the last use is renewed (R91). -/
def SnapshotSlot.serveAt (x : SnapshotSlot) (offset : Nat) (counter : Tick) (m : Moment) (order : Nat) : SnapshotSlot :=
  match x with
  | .held i words readSet =>
    .held { i with lastUse := m.tick, timer := startTimer counter m.tick, useOrder := order } words
      (readSet.setIfInBounds offset true)
  | .free => .free
  | .loading i retry reload waiting => .loading i retry reload waiting

/-- A HELD slot's read set covers the record (R106). -/
def SnapshotSlot.fullyRead (x : SnapshotSlot) : Bool :=
  match x with
  | .held _ words readSet => (readSet.toList.take words.length).all id
  | .free => false
  | .loading _ _ _ _ => false

/-- The offset joins the slot's read set and the last use is renewed (R91). -/
def State.markServed (s : State) (slot : Fin 24) (offset : Nat) (m : Moment) : State :=
  (s.setSnapshots (updatePool s.snapshots slot fun x => x.serveAt offset s.timeBase.counter m s.snapshotUses)).setSnapshotUses
    (s.snapshotUses + 1)

/-- A slot read to its end is released (R106). -/
def State.releaseIfRead (s : State) (slot : Fin 24) (m : Moment) : State :=
  if s.snapshots[slot].fullyRead then s.freeSnapshot slot m else s

/-- Slot a's last use is older than slot b's: earlier, or set first at equal times (R88). -/
def SnapshotInfo.olderThan (a b : SnapshotInfo) : Bool :=
  decide (b.timer.elapsed < a.timer.elapsed) || (a.timer.elapsed == b.timer.elapsed && decide (a.useOrder < b.useOrder))

/-- The one of two slots with the older last use. -/
def State.olderSlot (s : State) (a b : Fin 24) : Fin 24 :=
  match s.snapshots[b].info, s.snapshots[a].info with
  | some y, some x => if y.olderThan x then b else a
  | _, _ => a

/-- The reader's slot with the oldest last-use time (R88). -/
def State.oldestSlot (s : State) (n : Initiator) : Option (Fin 24) :=
  match s.readerSlots n with
  | [] => none
  | i :: rest => some (rest.foldl s.olderSlot i)

/-- Step 1 of a latch: the reader's slot in the window is released, then, if it still holds four, its oldest (R93, R94). -/
def State.latchReleases (s : State) (n : Initiator) (w : WindowId) (m : Moment) : State :=
  let s1 := match s.snapshotIn n w with
    | some slot => s.releaseByLatch slot m
    | none => s
  if (s1.readerSlots n).length < Config.slotsPerReader then s1
  else match s1.oldestSlot n with
    | some slot => s1.releaseByLatch slot m
    | none => s1

/-- Steps 2 and 3 of a latch: the lowest-numbered FREE slot becomes LOADING and its LOAD arrives (R93). -/
def State.takeSnapshotSlot (s : State) (ref : WordRef) (r : RecordId) (m : Moment) : State :=
  match s.freeSnapshotSlot with
  | none => s
  | some slot =>
    let info : SnapshotInfo := ⟨ref.initiator, r, m.tick, startTimer s.timeBase.counter m.tick, s.snapshotUses⟩
    ((s.setSnapshots (s.snapshots.set slot (.loading info false false [⟨ref, 0⟩]))).setSnapshotUses
      (s.snapshotUses + 1)).arrive (.load slot) [r]

/-- A word joins the waiting words of a LOADING slot (R92). -/
def SnapshotSlot.addWaiting (x : SnapshotSlot) (w : WaitingWord) : SnapshotSlot :=
  match x with
  | .loading i retry reload waiting => .loading i retry reload (waiting ++ [w])
  | .free => .free
  | .held i words readSet => .held i words readSet

/-- The event of a refused word (R34). -/
def refusedEvent (r : RecordId) (n : Initiator) (t : Tick) : Event :=
  ⟨.refused, some r.window, some r.record, some n, none, t⟩

/-- What the word's path does to the block that serves it and to the entry (R4). -/
def State.follow (s : State) (ref : WordRef) (p : Path) (m : Moment) : State :=
  let n := ref.initiator
  match p with
  | .refused r =>
    (s.updateEntry n ref.tag fun e => e.settleWord .refused 0).raiseIf s.windows[r.window].enables.refused r.window
      (refusedEvent r n m.tick)
  | .passThrough => s.updateEntry n ref.tag fun e => e.joinRun none none
  | .direct r => s.updateEntry n ref.tag fun e => e.joinRun (some r.window) (some r)
  | .hold reason r => s.updateEntry n ref.tag fun e => e.holdWord reason r s.timeBase.counter m
  | .store slot offset data =>
    (match s.staging[slot] with
      | .filling g timer => s.storeWord ref slot g timer offset data
      | .free => s
      | .committing _ _ => s)
  | .openSlot slot r offset data =>
    s.storeWord ref slot (newGather r n m.tick) (startTimer s.timeBase.counter m.tick) offset data
  | .serve slot offset =>
    ((s.updateEntry n ref.tag fun e => e.settleWord .ok (s.snapshots[slot].wordAt offset)).markServed slot offset
      m).releaseIfRead slot m
  | .wait slot offset =>
    (s.updateEntry n ref.tag Entry.pendWord).setSnapshots
      (updatePool s.snapshots slot fun x => x.addWaiting ⟨ref, offset⟩)
  | .latch r => ((s.updateEntry n ref.tag Entry.pendWord).latchReleases n r.window m).takeSnapshotSlot ref r m

/-- An entry that has routed all its words: its run ends (R5, R6), and the next entry may start (R3, R166). -/
def State.endRouting (s : State) (n : Initiator) (tag : Fin 4) (m : Moment) : State :=
  if (s.entry n tag).any (·.routed) then (s.handOverRun n tag).passClosing n m else s

/-- The routing of the word at an entry's routing position: a run that ends at this word is handed over first (log 10).
No grant comes between two bursts that it makes join their requesters: the model's choice between the orders of R136
(log 25). -/
def State.routeEntry (s : State) (n : Initiator) (e : Entry) (m : Moment) : State :=
  let p := s.routePath n e
  let s1 := if p.continues e.run then s else s.handOverRun n e.tag
  (s1.follow ⟨n, e.tag, e.position⟩ p m).endRouting n e.tag m

/-! ### The commands -/

/-- The entry of queue n that is routing words (R3, R4). -/
def State.routingEntry (s : State) (n : Initiator) : Option Entry := s.queues[n].find? (·.routing)

/-- The HELD entry of queue n (R9). -/
def State.heldEntry (s : State) (n : Initiator) : Option Entry := s.queues[n].find? fun e => e.hold.isSome

/-- The routing of queue n's next word, if an entry of it is routing (R4). -/
def State.routeNext (s : State) (n : Initiator) : State :=
  match s.routingEntry n with
  | some e => s.routeEntry n e (e.moment s.now)
  | none => s

/-- ROUTE_WORD (R4). -/
def execRouteWord (n : Initiator) (s : State) : Host.Outcome State Fault Refusal :=
  .next (s.event fun t => t.routeNext n)

/-- The moment a restart reads: that of the close that caused it, or the present tick (R166, log 7). -/
def RestartDue.moment (r : RestartDue) (now : Moment) : Option Moment :=
  match r with
  | .none => Option.none
  | .owed => some now
  | .owedAtClose t => some ⟨t, true⟩

/-- The restart owed to queue n's held word, at its moment: the entry routes on as part of that close or not (R10, R166). -/
def State.restartHeld (s : State) (n : Initiator) : State :=
  match s.heldEntry n with
  | some e =>
    (match e.hold.bind fun h => h.restart.moment s.now with
      | some m =>
        (s.updateEntry n e.tag fun x => { x with closing := m.closing }).routeEntry n { e with closing := m.closing } m
      | none => s)
  | none => s

/-- RESTART (R10). -/
def execRestart (n : Initiator) (s : State) : Host.Outcome State Fault Refusal :=
  .next (s.event fun t => t.restartHeld n)

end Sys2Proof.Machine
end

