-- ==== Sys2Proof/Machine/Port.lean ====
section
/-! DEFINITION. The memory port (chapter 7): PORT_GRANT, MEMORY_RESPONSE with what each owner does on its response
(R129), the acknowledgement observer (R138, R159, R160), and SET_PORT. -/

namespace Sys2Proof.Machine

/-! ### Requesters and grants -/

/-- The reservation waits at the COMMIT requester (R132). -/
def Reservation.commitWaits (r : Reservation) : Bool :=
  match r.owner with
  | .commit _ => !r.inFlight
  | .load _ => false
  | .direct _ => false

/-- The reservation waits at the LOAD requester (R133). -/
def Reservation.loadWaits (r : Reservation) : Bool :=
  match r.owner with
  | .load _ => !r.inFlight
  | .commit _ => false
  | .direct _ => false

/-- The requester holds a burst (R130, R132, R133, R134). -/
def State.holdsBurst (s : State) (q : Requester) : Bool :=
  match q with
  | .direct => s.port.direct.toList.any fun l => !l.isEmpty
  | .commit => s.interlock.table.any (·.commitWaits)
  | .load => s.interlock.table.any (·.loadWaits)
  | .notice => s.notice.writer.any fun w => !w.outstanding

/-- The priority order of the arbiter (R135). -/
def MemoryPort.priority (p : MemoryPort) : List Requester :=
  match p.mode with
  | .fixed => MemoryPort.startRotation
  | .rotating => p.rotation

/-- The outstanding list has a free place (R127). -/
def MemoryPort.hasRoom (p : MemoryPort) : Bool := decide (p.outstanding.length < Config.outstandingPlaces)

/-- The requester a grant goes to: the first in the priority order that holds a burst, while a place is free (R136). -/
def State.grantee (s : State) : Option Requester :=
  if s.port.hasRoom then s.port.priority.find? fun q => s.holdsBurst q else none

/-- The rotation order after a grant (R135). -/
def MemoryPort.rotate (p : MemoryPort) (q : Requester) : MemoryPort :=
  match p.mode with
  | .fixed => p
  | .rotating => { p with rotation := p.rotation.filter (· != q) ++ [q] }

/-- Numbers 0..15 in the order last + 1, last + 2, and on round to last (R131, R151). -/
def roundRobin (last : Fin 16) : List (Fin 16) := (List.finRange 16).map fun i => last + 1 + i

/-- The initiator a DIRECT grant chooses (R131). -/
def MemoryPort.directChoice (p : MemoryPort) : Option Initiator :=
  (roundRobin p.lastServed).find? fun n => !p.direct[n].isEmpty

/-- A burst is issued: its item joins the tail of the outstanding list (R127). -/
def State.issue (s : State) (q : Requester) (b : Burst) (owner : BurstOwner) : State :=
  s.setPort { s.port with outstanding := s.port.outstanding ++ [⟨q, b, owner⟩] }

/-- The reservation's burst has been issued (R68, R76). -/
def Reservation.issued (r : Reservation) : Reservation :=
  { r with inFlight := true, firstIssued := match r.owner with
    | .commit _ => true
    | .load _ => r.firstIssued
    | .direct _ => r.firstIssued }

/-- A reservation's burst is issued. -/
def State.issueReservation (s : State) (q : Requester) (r : Reservation) : State :=
  (s.updateReservation r.id Reservation.issued).issue q r.burst (.reservation r.id)

/-! ### The acknowledgement observer -/

/-- The value a WRITE burst carries to the ack word with all eight lanes enabled (R138). -/
def ackValue (ring : Option Ring) (b : Burst) : Option Word :=
  match ring, b with
  | some r, .write a words =>
    words.zipIdx.findSome? fun x =>
      if a + BitVec.ofNat 40 (8 * x.2) = r.ackWord ∧ x.1.lanes = 0xFF then some x.1.data else none
  | _, _ => none

/-- The oldest entries of the in-flight list are retired: their classes' in-flight flags clear (R159). -/
def NoticeUnit.retire (n : NoticeUnit) (count : Nat) : NoticeUnit :=
  { n with
    inFlight := n.inFlight.drop count
    classes := Vector.ofFn fun c =>
      if (n.inFlight.take count).any fun x => x.2 == c then { n.classes[c] with inFlight := false } else n.classes[c] }

/-- The observer applies a value: accepted up to P, otherwise out of range (R159, R160). -/
def NoticeUnit.observe (n : NoticeUnit) (value : Word) : NoticeUnit :=
  let c : BitVec 32 := value.setWidth 32
  let d := c - n.consumed
  if d ≤ n.produced - n.consumed then { n.retire d.toNat with consumed := c } else { n with ackRange := true }

/-- A pass-through burst is issued, and the observer sees a full word it carries to the ack word (R138). -/
def State.issuePassThrough (s : State) (b : Burst) (refs : List WordRef) : State :=
  let s1 := s.issue .direct b (.words refs)
  match ackValue s.notice.ring b with
  | some v => s1.setNotice (s.notice.observe v)
  | none => s1

/-! ### PORT_GRANT -/

/-- The DIRECT requester issues the oldest burst of the chosen initiator's list (R131). -/
def State.issueDirect (s : State) : State :=
  match s.port.directChoice with
  | none => s
  | some n =>
    match s.port.direct[n] with
    | [] => s
    | item :: rest =>
      let s1 := s.setPort { s.port with direct := s.port.direct.set n rest, lastServed := n }
      match item with
      | .passThrough b refs => s1.issuePassThrough b refs
      | .windowRead id =>
        match s1.reservation id with
        | some r => s1.issueReservation .direct r
        | none => s1

/-- The COMMIT requester issues the burst of the oldest reservation that waits (R132). -/
def State.issueCommit (s : State) : State :=
  match s.interlock.table.find? (·.commitWaits) with
  | some r => s.issueReservation .commit r
  | none => s

/-- The LOAD requester issues the burst of the oldest reservation that waits (R133). -/
def State.issueLoad (s : State) : State :=
  match s.interlock.table.find? (·.loadWaits) with
  | some r => s.issueReservation .load r
  | none => s

/-- The NOTICE requester issues the write it holds (R134). -/
def State.issueNotice (s : State) : State :=
  match s.notice.writer with
  | some w => (s.setNotice { s.notice with writer := some { w with outstanding := true } }).issue .notice w.burst .noticeWriter
  | none => s

/-- The granted requester issues its chosen burst (R131 to R134). -/
def State.issueFrom (s : State) (q : Requester) : State :=
  match q with
  | .direct => s.issueDirect
  | .commit => s.issueCommit
  | .load => s.issueLoad
  | .notice => s.issueNotice

/-- A grant, if one can be taken (R136). -/
def State.grant (s : State) : State :=
  match s.grantee with
  | some q => (s.setPort (s.port.rotate q)).issueFrom q
  | none => s

/-- PORT_GRANT (R136). A response's owner has applied its result before it, and a release in transit is taken first unless it
is held back: the model's choice between orders that R128 leaves open (log 23, log 8). -/
def execPortGrant (s : State) : Host.Outcome State Fault Refusal := .next (s.event State.grant)

/-! ### Responses to commits -/

/-- The advanced cursor reaches the record count (R37). -/
def Window.terminal (w : Window) : Bool := w.kind == .stream && w.state != .closed && w.cursor + 1 == w.recordCount

/-- The cursor, and the state, of a window whose commit has ended with OK (R35 to R38). A STREAM window that is CLOSED
has no commit left to end. -/
def Window.advance (w : Window) : Window :=
  if w.kind = .table ∨ w.state = .closed then w
  else if !w.terminal then { w with cursor := w.cursor + 1 }
  else if w.state = .active && !w.reload then { w with cursor := w.cursor + 1, state := .closed }
  else { w with cursor := 0 }

/-- The event of a commit (R40, R79). -/
def commitEvent (kind : EventKind) (g : Gather) (sequence : BitVec 32) (record : Nat) (t : Tick) : Event :=
  ⟨kind, some g.target.window, some record, some g.owner, some sequence, t⟩

/-- The window table takes the completion of a commit with OK: the cursor, then COMMITTED, WRAPPED and CLOSED (R40);
no event for a window that is OFF or while the part is CLEARING (R38, R43). -/
def State.completeCommit (s : State) (g : Gather) (sequence : BitVec 32) (t : Tick) : State :=
  let id := g.target.window
  let w := s.windows[id]
  let s1 := s.updateWindow id Window.advance
  if w.state = .off ∨ s.partState = .clearing then s1
  else
    let last := w.recordCount - 1
    let s2 := s1.raiseIf w.enables.committed id (commitEvent .committed g sequence g.target.record t)
    let s3 := s2.raiseIf (w.terminal && w.reload && w.enables.wrapped) id (commitEvent .wrapped g sequence last t)
    s3.raiseIf (w.terminal && !w.reload) id (commitEvent .closed g sequence last t)

/-- A commit ends with success: the interlock is handed the release (R73, R78). -/
def State.commitSucceeds (s : State) (id : Fin 8) (slot : Fin 16) (g : Gather) (info : CommitInfo) : State :=
  (((s.handOver (.release id)).completeCommit g (info.sequence.getD 0) s.timeBase.counter).answer info.completing .ok 0).freeStaging
    slot s.now

/-- A commit ends with its second failure (R79); no event while the part is CLEARING (R65). -/
def State.commitFails (s : State) (id : Fin 8) (slot : Fin 16) (g : Gather) (info : CommitInfo) : State :=
  (((s.handOver (.release id)).raiseIf (s.partState == .running) g.target.window
    (commitEvent .commitFailed g (info.sequence.getD 0) g.target.record s.timeBase.counter)).answer info.completing
      .memError 0).freeStaging slot s.now

/-- The burst of a reservation is requested again, under the same reservation (R77, R98, R101). -/
def State.requestAgain (s : State) (id : Fin 8) : State := s.updateReservation id fun r => { r with inFlight := false }

/-- The response to a commit's burst (R77 to R79). -/
def State.commitResponse (s : State) (id : Fin 8) (slot : Fin 16) (status : MemStatus) : State :=
  match s.staging[slot] with
  | .committing g info =>
    (match status with
      | .ok => s.commitSucceeds id slot g info
      | .error =>
        if info.retried then s.commitFails id slot g info
        else (s.requestAgain id).setStaging (s.staging.set slot (.committing g { info with retried := true })))
  | .free => s
  | .filling _ _ => s

/-! ### Responses to loads -/

/-- The waiting words of a load are served from the slot in order (R103). -/
def State.serveWaiting (s : State) (slot : Fin 24) (waiting : List WaitingWord) (m : Moment) : State :=
  match waiting with
  | [] => s
  | w :: rest =>
    ((s.answer w.word .ok (s.snapshots[slot].wordAt w.offset)).markServed slot w.offset m).serveWaiting slot rest m

/-- A slot just filled by a load (R103). -/
def State.fillSnapshot (s : State) (slot : Fin 24) (i : SnapshotInfo) (words : List Word) : State :=
  (s.setSnapshots (s.snapshots.set slot (.held
    { i with lastUse := s.timeBase.counter, timer := startTimer s.timeBase.counter s.timeBase.counter,
             useOrder := s.snapshotUses } words (Vector.replicate 32 false)))).setSnapshotUses (s.snapshotUses + 1)

/-- A load succeeds (R103). -/
def State.loadSucceeds (s : State) (id : Fin 8) (slot : Fin 24) (i : SnapshotInfo) (waiting : List WaitingWord)
    (words : List Word) : State :=
  ((((s.handOver (.release id)).fillSnapshot slot i words).serveWaiting slot waiting s.now).releaseIfRead slot s.now)

/-- A load ends with LOAD_FAILED or CHECK_FAILED: the event is raised whatever the enables, every waiting word gets the
code, and the slot becomes FREE (R99, R102). -/
def State.loadFails (s : State) (id : Fin 8) (slot : Fin 24) (i : SnapshotInfo) (waiting : List WaitingWord)
    (kind : EventKind) (sequence : Option (BitVec 32)) (code : Code) : State :=
  ((((s.handOver (.release id)).raiseWindow i.target.window
    ⟨kind, some i.target.window, some i.target.record, some i.reader, sequence, s.timeBase.counter⟩).answerEach
      (waiting.map (·.word)) code []).freeSnapshot slot s.now)

/-- The response to a load's burst: repeat, verification, reload, or the load's end (R98 to R103, R117). -/
def State.loadResponse (s : State) (id : Fin 8) (slot : Fin 24) (status : MemStatus) (words : List Word) : State :=
  match s.snapshots[slot] with
  | .loading i retry reload waiting =>
    (match status with
      | .error =>
        if retry then s.loadFails id slot i waiting .loadFailed none .memError
        else (s.requestAgain id).setSnapshots (s.snapshots.set slot (.loading i true reload waiting))
      | .ok =>
        if !s.windows[i.target.window].stamps || stampMatches words i.target.record then
          s.loadSucceeds id slot i waiting words
        else if reload then
          s.loadFails id slot i waiting .checkFailed (some (stampSequence (words.getLastD 0))) .badCheck
        else (s.requestAgain id).setSnapshots (s.snapshots.set slot (.loading i retry true waiting)))
  | .free => s
  | .held _ _ _ => s

/-! ### Responses to notice writes -/

/-- A notice write ends with OK (R154). -/
def NoticeUnit.writeOk (n : NoticeUnit) (w : NoticeWrite) : NoticeUnit :=
  { n with
    inFlight := n.inFlight ++ [(w.producer, w.cls)]
    produced := n.produced + 1
    classes := updatePool n.classes w.cls fun c => { c with inFlight := true }
    lastDelivered := w.cls
    writer := none }

/-- The carried items go back to their class (R156). -/
def NoticeClass.restore (c : NoticeClass) (w : NoticeWrite) : NoticeClass :=
  { c with
    pending := min (c.pending + w.count) Config.pendingCeiling
    first := if c.pending = 0 then some w.first else c.first
    kinds := c.kinds ||| w.kinds }

/-- A notice write ends with its second ERROR (R156). -/
def NoticeUnit.writeFails (n : NoticeUnit) (w : NoticeWrite) : NoticeUnit :=
  { n with state := .halted, classes := updatePool n.classes w.cls fun c => c.restore w, writer := none }

/-- The response to a notice write (R154 to R156). -/
def NoticeUnit.writeResponse (n : NoticeUnit) (status : MemStatus) : NoticeUnit :=
  match n.writer with
  | none => n
  | some w =>
    match status with
    | .ok => n.writeOk w
    | .error =>
      if w.repeated then n.writeFails w else { n with writer := some { w with repeated := true, outstanding := false } }

/-! ### MEMORY_RESPONSE -/

/-- Words of a burst (R126). -/
def Burst.length : Burst → Nat
  | .read _ n => n
  | .write _ ws => ws.length

/-- The data words a response carries: those of an OK on a READ, one per word (R128). -/
def responseData (b : Burst) (status : MemStatus) (data : Vector Word 32) : List Word :=
  match b, status with
  | .read _ n, .ok => data.toList.take n
  | .read _ _, .error => []
  | .write _ _, _ => []

/-- The code of words served by a pass-through burst or a direct window read (R7, R82). -/
def responseCode : MemStatus → Code
  | .ok => .ok
  | .error => .memError

/-- A response reaches its owner, the item having left the outstanding list (R128, R129). -/
def State.deliver (s : State) (item : Outstanding) (status : MemStatus) (data : List Word) : State :=
  match item.owner with
  | .words refs => s.answerEach refs (responseCode status) data
  | .noticeWriter => s.setNotice (s.notice.writeResponse status)
  | .reservation id =>
    match s.reservation id with
    | none => s
    | some r =>
      match r.owner with
      | .direct refs => (s.handOver (.release id)).answerEach refs (responseCode status) data
      | .commit slot => s.commitResponse id slot status
      | .load none => s.handOver (.release id)
      | .load (some slot) => s.loadResponse id slot status data

/-- A response of the memory, ignored while the outstanding list is empty (R128). The owner applies its result in this step,
before any grant into the freed place: R128 leaves that order open, and it is the model's choice (log 23). -/
def State.respondMemory (s : State) (status : MemStatus) (data : Vector Word 32) : State :=
  match s.port.outstanding with
  | [] => s
  | item :: rest =>
    (s.setPort { s.port with outstanding := rest }).deliver item status (responseData item.burst status data)

/-- MEMORY_RESPONSE (R128). -/
def execMemoryResponse (status : MemStatus) (data : Vector Word 32) (s : State) : Host.Outcome State Fault Refusal :=
  .next (s.event fun t => t.respondMemory status data)

/-! ### SET_PORT -/

/-- SET_PORT's own rule (R137). -/
def State.setPortRule (s : State) (mode : Byte) : State :=
  match modeOperand mode with
  | none => s.respond .badArg []
  | some m => (s.setPort { s.port with mode := m, rotation := MemoryPort.startRotation }).respond .accepted []

/-- SET_PORT (R137). -/
def execSetPort (mode check : Byte) (s : State) : Host.Outcome State Fault Refusal :=
  .next (s.linkCommand (encodeFrame (.setPort mode check)) 0 fun t => t.setPortRule mode)

end Sys2Proof.Machine
end

