-- ==== Sys2Proof/Machine/Notices.lean ====
section
/-! DEFINITION. The notice unit's commands (chapter 8): NOTICE_WRITE_START, SET_RING, SET_CLASSES, GET_CLASS,
RESTART_NOTICES. -/

namespace Sys2Proof.Machine

/-! ### The notice writer -/

/-- A class that may be written (R150). -/
def NoticeClass.eligible (c : NoticeClass) : Bool := decide (0 < c.pending) && !c.masked && !c.inFlight

/-- The classes in the order the writer looks at them (R151). -/
def NoticeUnit.classOrder (n : NoticeUnit) : List ClassId :=
  match n.mode with
  | .fixed => List.finRange 16
  | .rotating => roundRobin n.lastDelivered

/-- The eligible class the writer chooses (R151). -/
def NoticeUnit.classChoice (n : NoticeUnit) : Option ClassId := n.classOrder.find? fun c => n.classes[c].eligible

/-- The ring has room for an entry (R150). -/
def NoticeUnit.hasRoom (n : NoticeUnit) (r : Ring) : Bool := decide ((n.produced - n.consumed).toNat < r.capacity)

/-- The address of the ring position of a producer index (R153). -/
def Ring.position (r : Ring) (producer : BitVec 32) : Addr :=
  r.base + BitVec.ofNat 40 (producer.toNat % r.capacity * 32)

/-- The write of a class's entry: four words with all eight lanes enabled (R152, R153). -/
def buildWrite (r : Ring) (producer : BitVec 32) (cls : ClassId) (c : NoticeClass) (first : Event) : NoticeWrite :=
  { cls := cls, count := c.pending, first := first, kinds := c.kinds, producer := producer
    burst := .write (r.position producer) ((noticeEntry cls c.pending first c.kinds producer).map fun d => ⟨d, 0xFF⟩)
    repeated := false, outstanding := false }

/-- A class with nothing counted (R152, R164). -/
def NoticeClass.emptied (c : NoticeClass) : NoticeClass := { c with pending := 0, first := none, kinds := 0 }

/-- The writer builds the entry of a class and clears the class (R152). -/
def NoticeUnit.build (n : NoticeUnit) (r : Ring) (cls : ClassId) : NoticeUnit :=
  match n.classes[cls].first with
  | none => n
  | some first =>
    { n with
      classes := updatePool n.classes cls NoticeClass.emptied
      writer := some (buildWrite r n.produced cls n.classes[cls] first) }

/-- NOTICE_WRITE_START's conditions on the notice unit and its effect (R150 to R153). -/
def NoticeUnit.start (n : NoticeUnit) : NoticeUnit :=
  match n.ring, n.classChoice with
  | some r, some cls => if n.state = .running && n.writer.isNone && n.hasRoom r then n.build r cls else n
  | _, _ => n

/-- The writer's test of its conditions, and the build in the same taking (R150). -/
def State.writerTest (s : State) : State := if s.partState = .running then s.setNotice s.notice.start else s

/-- NOTICE_WRITE_START: the writer tests as each event reaches its class, so that it may build with the first of several
(R150, R152). -/
def execNoticeWriteStart (s : State) : Host.Outcome State Fault Refusal := .next (s.testEvent State.writerTest)

/-! ### SET_RING -/

/-- First byte address above the ring area (R146). -/
def ringEnd (base : Addr) (capacity : Nat) : Nat := base.toNat + 32 * capacity

/-- Two byte ranges share an address (R26). -/
def rangesOverlap (a aEnd b bEnd : Nat) : Bool := decide (a < bEnd) && decide (b < aEnd) && decide (a < aEnd) && decide (b < bEnd)

/-- A window that is not OFF overlaps the ring area or holds the ack word (R26, R146). -/
def Window.meetsRing (w : Window) (r : Ring) : Bool :=
  rangesOverlap w.base.toNat w.endAddress r.base.toNat (ringEnd r.base r.capacity) || w.contains r.ackWord

/-- The argument checks of SET_RING on ring and ack word (R146). -/
def State.ringAllowed (s : State) (r : Ring) : Bool :=
  [4, 8, 16].contains r.capacity && decide (r.base.toNat % (32 * r.capacity) = 0)
    && decide (ringEnd r.base r.capacity ≤ Config.addressEnd) && decide (r.ackWord.toNat % 8 = 0)
    && !(decide (r.base.toNat ≤ r.ackWord.toNat) && decide (r.ackWord.toNat < ringEnd r.base r.capacity))
    && !s.windows.toList.any fun w => w.state != .off && w.meetsRing r

/-- The notice unit after an accepted SET_RING (R147). -/
def NoticeUnit.withRing (n : NoticeUnit) (r : Ring) (fault : ClassId) : NoticeUnit :=
  { n with
    state := match n.state with
      | .halted => .halted
      | .unconfigured => .running
      | .running => .running
    ring := some r, faultClass := fault, produced := 0, consumed := 0 }

/-- SET_RING's own rule (R146, R147). -/
def State.setRingRule (s : State) (r : Ring) (fault : Byte) : State :=
  if !s.notice.inFlight.isEmpty || s.notice.writer.isSome then s.respond .badState []
  else match classOperand fault with
    | none => s.respond .badArg []
    | some c => if s.ringAllowed r then (s.setNotice (s.notice.withRing r c)).respond .accepted [] else s.respond .badArg []

/-- SET_RING (R146, R147). -/
def execSetRing (base : Addr) (capacity : Byte) (ackWord : Addr) (faultClass check : Byte) (s : State) :
    Host.Outcome State Fault Refusal :=
  .next (s.linkCommand (encodeFrame (.setRing base capacity ackWord faultClass check)) 0
    fun t => t.setRingRule ⟨base, capacity.toNat, ackWord⟩ faultClass)

/-! ### SET_CLASSES, GET_CLASS, RESTART_NOTICES -/

/-- The masks of a masked set (R148). -/
def NoticeUnit.withMasks (n : NoticeUnit) (mode : PriorityMode) (masked : BitVec 16) : NoticeUnit :=
  { n with mode := mode, classes := Vector.ofFn fun c => { n.classes[c] with masked := memberOf masked c } }

/-- SET_CLASSES' own rule (R148). -/
def State.setClassesRule (s : State) (mode : Byte) (masked : BitVec 16) : State :=
  match modeOperand mode with
  | none => s.respond .badArg []
  | some m => (s.setNotice (s.notice.withMasks m masked)).respond .accepted []

/-- SET_CLASSES (R148). -/
def execSetClasses (mode : Byte) (masked : BitVec 16) (check : Byte) (s : State) : Host.Outcome State Fault Refusal :=
  .next (s.linkCommand (encodeFrame (.setClasses mode masked check)) 0 fun t => t.setClassesRule mode masked)

/-- The class is the one the current write carries (R149). -/
def NoticeUnit.carries (n : NoticeUnit) (c : ClassId) : Bool := n.writer.any fun w => w.cls == c

/-- GET_CLASS's own rule (R149, R192). -/
def State.getClassRule (s : State) (cls : Byte) : State :=
  match classOperand cls with
  | none => s.respond .badArg (List.replicate 17 0)
  | some c => s.respond .accepted (s.notice.classes[c].resultRecord (s.notice.carries c))

/-- GET_CLASS (R149). -/
def execGetClass (cls check : Byte) (s : State) : Host.Outcome State Fault Refusal :=
  .next (s.linkCommand (encodeFrame (.getClass cls check)) 17 fun t => t.getClassRule cls)

/-- RESTART_NOTICES' own rule (R157). -/
def State.restartNoticesRule (s : State) : State :=
  if s.notice.state = .halted then (s.setNotice { s.notice with state := .running }).respond .accepted []
  else s.respond .badState []

/-- RESTART_NOTICES (R157). -/
def execRestartNotices (check : Byte) (s : State) : Host.Outcome State Fault Refusal :=
  .next (s.linkCommand (encodeFrame (.restartNotices check)) 0 State.restartNoticesRule)

end Sys2Proof.Machine
end

