-- ==== Sys2Proof/Machine/Timers.lean ====
section
/-! DEFINITION. The time base (chapter 9) and the expiries of slot timers: TICK_CLOSE, GATHER_TIMEOUT, SNAPSHOT_TIMEOUT,
SET_TIMERS, SET_CLOCK, and a CLK period. -/

namespace Sys2Proof.Machine

/-! ### Tick closes -/

/-- A queue entry across a tick close: a HELD entry's timer runs (R12, R169). -/
def Entry.closeTick (e : Entry) (timeout : Nat) (closing : Tick) : Entry :=
  match e.state with
  | .held h => { e with state := .held { h with timer := h.timer.close timeout closing } }
  | .waiting => e
  | .inProgress => e
  | .done => e

/-- A staging slot across a tick close: a FILLING slot's timer runs (R58, R169). -/
def StagingSlot.closeTick (x : StagingSlot) (timeout : Nat) (closing : Tick) : StagingSlot :=
  match x with
  | .filling g timer => .filling g (timer.close timeout closing)
  | .free => .free
  | .committing g info => .committing g info

/-- A snapshot slot across a tick close: a HELD slot's timer runs (R107, R169); a LOADING slot's age is counted
without a timeout, for R88. -/
def SnapshotSlot.closeTick (x : SnapshotSlot) (timeout : Nat) (closing : Tick) : SnapshotSlot :=
  match x with
  | .held i words readSet => .held { i with timer := i.timer.close timeout closing } words readSet
  | .loading i retry reload waiting => .loading { i with timer := i.timer.close 0 closing } retry reload waiting
  | .free => .free

/-- The present tick closes: every running timer is tested against its timeout, the counter advances by one and the
divider starts again from 0 (R166, R167, R169). -/
def State.closeTick (s : State) : State :=
  let t := s.timeBase
  (((s.setQueues (mapPool s.queues fun q => q.map fun e => e.closeTick t.holdTimeout t.counter)).setStaging
      (mapPool s.staging fun x => x.closeTick t.gatherTimeout t.counter)).setSnapshots
      (mapPool s.snapshots fun x => x.closeTick t.snapshotTimeout t.counter)).setTimeBase
    { t with counter := t.counter + 1, position := 0 }

/-- TICK_CLOSE (R166, R167, log 5). -/
def execTickClose (s : State) : Host.Outcome State Fault Refusal := .next (s.event State.closeTick)

/-- One CLK period: the divider's position advances, and the tick closes when it reaches the declared clock (R167,
log 4). The divider stands still while RST_N is low (R166). -/
def State.clkPeriod (s : State) : State :=
  s.event fun t =>
    if t.timeBase.declaredClock ≤ t.timeBase.position + 1 then t.closeTick
    else t.setTimeBase { t.timeBase with position := t.timeBase.position + 1 }

/-! ### Expiries of slots -/

/-- A FILLING slot is abandoned: ABANDONED is raised whatever the enables, then the slot becomes FREE (R58). -/
def State.abandon (s : State) (slot : Fin 16) (m : Moment) : State :=
  match s.staging[slot] with
  | .filling g _ =>
    (s.raiseWindow g.target.window
      ⟨.abandoned, some g.target.window, some g.target.record, some g.owner, none, m.tick⟩).freeStaging slot m
  | .free => s
  | .committing _ _ => s

/-- The expiry of a FILLING slot whose gather timer a tick close has expired, reading that close's tick (R58, R169). -/
def State.gatherExpiry (s : State) (slot : Fin 16) : State :=
  match s.staging[slot] with
  | .filling _ timer =>
    (match timer.expired with
      | some closing => s.abandon slot ⟨closing, true⟩
      | none => s)
  | .free => s
  | .committing _ _ => s

/-- GATHER_TIMEOUT (R58, R169). -/
def execGatherTimeout (slot : Fin 16) (s : State) : Host.Outcome State Fault Refusal :=
  .next (s.event fun t => t.gatherExpiry slot)

/-- The sequence SNAPSHOT_EXPIRED carries: the slot's stamp sequence in a stamped window (R107). -/
def snapshotSequence (w : Window) (words : List Word) : Option (BitVec 32) :=
  if w.stamps then some (stampSequence (words.getLastD 0)) else none

/-- The expiry of a HELD slot whose snapshot timer a tick close has expired, reading that close's tick (R107, R169). -/
def State.snapshotExpiry (s : State) (slot : Fin 24) : State :=
  match s.snapshots[slot] with
  | .held i words _ =>
    (match i.timer.expired with
      | some closing =>
        let w := s.windows[i.target.window]
        (s.raiseIf w.enables.snapshotExpired i.target.window
          ⟨.snapshotExpired, some i.target.window, some i.target.record, some i.reader,
            snapshotSequence w words, closing⟩).freeSnapshot slot ⟨closing, true⟩
      | none => s)
  | .free => s
  | .loading _ _ _ _ => s

/-- SNAPSHOT_TIMEOUT (R107, R169). -/
def execSnapshotTimeout (slot : Fin 24) (s : State) : Host.Outcome State Fault Refusal :=
  .next (s.event fun t => t.snapshotExpiry slot)

/-! ### The time base commands -/

/-- SET_TIMERS' own rule (R171). -/
def State.setTimersRule (s : State) (gather hold snapshot : Nat) : State :=
  if gather = 0 ∨ hold = 0 then s.respond .badArg []
  else (s.setTimeBase { s.timeBase with
    gatherTimeout := gather, holdTimeout := hold, snapshotTimeout := snapshot }).respond .accepted []

/-- SET_TIMERS (R171). -/
def execSetTimers (gather hold snapshot : BitVec 16) (check : Byte) (s : State) : Host.Outcome State Fault Refusal :=
  .next (s.linkCommand (encodeFrame (.setTimers gather hold snapshot check)) 0
    fun t => t.setTimersRule gather.toNat hold.toNat snapshot.toNat)

/-- SET_CLOCK's own rule: the tick in progress closes at once when the position has reached the new clock (R168). -/
def State.setClockRule (s : State) (mhz : Nat) : State :=
  if mhz < 20 ∨ 400 < mhz then s.respond .badArg []
  else
    let s1 := s.setTimeBase { s.timeBase with declaredClock := mhz }
    (if mhz ≤ s.timeBase.position then s1.closeTick else s1).respond .accepted []

/-- SET_CLOCK (R168). -/
def execSetClock (mhz : BitVec 16) (check : Byte) (s : State) : Host.Outcome State Fault Refusal :=
  .next (s.linkCommand (encodeFrame (.setClock mhz check)) 0 fun t => t.setClockRule mhz.toNat)

end Sys2Proof.Machine
end

