-- ==== Sys2Proof/Machine/Windows.lean ====
section
/-! DEFINITION. The window commands (chapter 2, R60): GET_WINDOW, PUT_WINDOW, ENABLE_WINDOW, DISABLE_WINDOW,
REOPEN_WINDOW, FLUSH_WINDOW. -/

namespace Sys2Proof.Machine

/-- A command that names a window: BAD_ARG for a number above 31 (R181), else the window's own rule. -/
def State.windowCommand (s : State) (frame : List Byte) (window : Byte) (results : Nat) (rule : State → WindowId → State) :
    State :=
  s.linkCommand frame results fun t => match windowOperand window with
    | none => t.respond .badArg (List.replicate results 0)
    | some w => rule t w

/-- GET_WINDOW's own rule (R23, R191). -/
def State.getWindowRule (s : State) (w : WindowId) : State := s.respond .accepted s.windows[w].resultRecord

/-- GET_WINDOW (R23, R191). -/
def execGetWindow (window check : Byte) (s : State) : Host.Outcome State Fault Refusal :=
  .next (s.windowCommand (encodeFrame (.getWindow window check)) window 22 State.getWindowRule)

/-- PUT_WINDOW's own rule: `put` is the entry with the carried values, none when a field check fails (R23, R24). -/
def State.putWindowRule (s : State) (w : WindowId) (put : Window → Option Window) : State :=
  if s.windows[w].state ≠ .off then s.respond .badState []
  else match put s.windows[w] with
    | none => s.respond .badArg []
    | some x => (s.setWindows (s.windows.set w x)).respond .accepted []

/-- PUT_WINDOW (R23, R24). -/
def execPutWindow (window : Byte) (base : Addr) (recordWords : Byte) (recordCount : BitVec 16) (flags : Byte)
    (writerSet readerSet : BitVec 16) (cls eventEnables check : Byte) (s : State) : Host.Outcome State Fault Refusal :=
  .next (s.windowCommand
    (encodeFrame (.putWindow window base recordWords recordCount flags writerSet readerSet cls eventEnables check)) window 0
    fun t w => t.putWindowRule w
      fun old => putOperand old base recordWords recordCount flags writerSet readerSet cls eventEnables)

/-! ### ENABLE_WINDOW -/

/-- The ranges of two windows share an address (R26). -/
def Window.overlaps (a b : Window) : Bool := rangesOverlap a.base.toNat a.endAddress b.base.toNat b.endAddress

/-- The first group of checks of R26. -/
def State.enableAllowed (s : State) (w : WindowId) : Bool :=
  let x := s.windows[w]
  legalRecordWords x.recordWords && legalRecordCount x.recordCount && decide (x.base.toNat % x.recordSize = 0)
    && decide (x.endAddress ≤ Config.addressEnd)
    && ((List.finRange 32).all fun v => v == w || s.windows[v].state == .off || !s.windows[v].overlaps x)
    && !s.notice.ring.any fun r => x.meetsRing r

/-- A pass-through WRITE burst of a direct list has a word in the range (R26, R130). -/
def DirectItem.writesInto (d : DirectItem) (w : Window) : Bool :=
  match d with
  | .passThrough (.write a words) _ => (List.range words.length).any fun i => w.contains (a + BitVec.ofNat 40 (8 * i))
  | .passThrough (.read _ _) _ => false
  | .windowRead _ => false

/-- A pass-through WRITE word in the range has been routed, in a run not yet handed over (R26, R6). -/
def Entry.runWritesInto (e : Entry) (w : Window) : Bool :=
  match e.transfer, e.run with
  | .write _, some r =>
    r.window.isNone && (List.range r.count).any fun i => w.contains (e.wordAddress (r.first + i))
  | .write _, none => false
  | .read _, _ => false

/-- The second group of checks of R26 fails: a pass-through write into the range waits. -/
def State.writeWaits (s : State) (w : Window) : Bool :=
  (s.port.direct.toList.any fun l => l.any fun d => d.writesInto w)
    || s.queues.toList.any fun q => q.any fun e => e.runWritesInto w

/-- ENABLE_WINDOW's own rule (R25, R26). -/
def State.enableRule (s : State) (w : WindowId) : State :=
  if s.windows[w].state ≠ .off then s.respond .badState []
  else if !s.enableAllowed w then s.respond .badArg []
  else if s.writeWaits s.windows[w] then s.respond .badState []
  else (s.updateWindow w fun x => { x with state := .active, cursor := 0, sequence := 0 }).respond .accepted []

/-- ENABLE_WINDOW (R25, R26). -/
def execEnableWindow (window check : Byte) (s : State) : Host.Outcome State Fault Refusal :=
  .next (s.windowCommand (encodeFrame (.enableWindow window check)) window 0 State.enableRule)

/-! ### DISABLE_WINDOW and REOPEN_WINDOW -/

/-- The cursor is set to 0 when the window leaves CLOSED (R39). -/
def Window.leaveClosed (w : Window) : Window := if w.state = .closed then { w with cursor := 0 } else w

/-- DISABLE_WINDOW's own rule, with the drain check at once (R27, R29). -/
def State.disableRule (s : State) (w : WindowId) : State :=
  match s.windows[w].state with
  | .off => s.respond .badState []
  | .draining => s.respond .accepted []
  | .active | .closed =>
    ((s.updateWindow w fun x => { x.leaveClosed with state := .draining }).drainCheck w s.now).respond .accepted []

/-- DISABLE_WINDOW (R27). -/
def execDisableWindow (window check : Byte) (s : State) : Host.Outcome State Fault Refusal :=
  .next (s.windowCommand (encodeFrame (.disableWindow window check)) window 0 State.disableRule)

/-- REOPEN_WINDOW's own rule (R30). -/
def State.reopenRule (s : State) (w : WindowId) : State :=
  if s.windows[w].state = .closed then
    (s.updateWindow w fun x => { x with state := .active, cursor := 0 }).respond .accepted []
  else s.respond .badState []

/-- REOPEN_WINDOW (R30). -/
def execReopenWindow (window check : Byte) (s : State) : Host.Outcome State Fault Refusal :=
  .next (s.windowCommand (encodeFrame (.reopenWindow window check)) window 0 State.reopenRule)

/-! ### FLUSH_WINDOW -/

/-- Record index of a FILLING slot of a window. -/
def State.fillingRecord (s : State) (w : WindowId) (slot : Fin 16) : Option Nat :=
  match s.staging[slot] with
  | .filling g _ => if g.target.window = w then some g.target.record else none
  | .free => none
  | .committing _ _ => none

/-- A slot put before the slots of higher record index. -/
def insertByRecord (x : Nat × Fin 16) (l : List (Nat × Fin 16)) : List (Nat × Fin 16) :=
  match l with
  | [] => [x]
  | y :: rest => if x.1 ≤ y.1 then x :: y :: rest else y :: insertByRecord x rest

/-- The FILLING slots of a window in ascending order of record index (R60). -/
def State.fillingSlots (s : State) (w : WindowId) : List (Fin 16) :=
  (((List.finRange 16).filterMap fun i => (s.fillingRecord w i).map fun r => (r, i)).foldr insertByRecord []).map (·.2)

/-- Slots abandoned one after another (R60). -/
def State.abandonEach (s : State) (slots : List (Fin 16)) (m : Moment) : State :=
  match slots with
  | [] => s
  | i :: rest => (s.abandon i m).abandonEach rest m

/-- FLUSH_WINDOW's own rule (R60). -/
def State.flushRule (s : State) (w : WindowId) : State :=
  if s.windows[w].state = .off then s.respond .badState []
  else (s.abandonEach (s.fillingSlots w) s.now).respond .accepted []

/-- FLUSH_WINDOW (R60). -/
def execFlushWindow (window check : Byte) (s : State) : Host.Outcome State Fault Refusal :=
  .next (s.windowCommand (encodeFrame (.flushWindow window check)) window 0 State.flushRule)

end Sys2Proof.Machine
end

