-- ==== Sys2Proof/Machine/Reset.lean ====
section
/-! DEFINITION. The two resets: PIN_RESET and PIN_RESET_RELEASE (R19, R180), CLEAR with every block's CLEAR rule (R185),
and CLEARING_END (R186); and the link's FRAME_CUT, UNKNOWN_COMMAND and GET_STATUS. -/

namespace Sys2Proof.Machine

/-! ### The pin -/

/-- Every block at its pin-reset values, with RST_N at a level; the level of CS_N and the waiting commands are the
outside's (R180). -/
def State.pinValues (s : State) (level : Bool) : State :=
  { State.reset with rstN := level, link := ⟨none, s.link.heldLow⟩, pending := s.pending }

/-- PIN_RESET (R19, R42, R66, R86, R111, R140, R165, R166, R187). -/
def execPinReset (s : State) : Host.Outcome State Fault Refusal := .next (s.pinValues false)

/-- PIN_RESET_RELEASE (R180, R19, R166): an RST_N that is high already does not rise; in that step hand-overs alone move
(log 8). -/
def execPinResetRelease (s : State) : Host.Outcome State Fault Refusal :=
  .next (if s.rstN then s.takeOldest else s.pinValues true)

/-! ### CLEAR -/

/-- The commit of a staging slot has been taken and has issued its first burst (R64, R65). A reservation of the slot's
former record, whose release is on its way, is none of its own. -/
def State.commitIssued (s : State) (slot : Fin 16) : Bool :=
  match s.staging[slot] with
  | .committing g info => info.sequence.isSome
      && s.interlock.table.any fun r => r.owner == .commit slot && r.records == [g.target] && r.firstIssued
  | .free => false
  | .filling _ _ => false

/-- The words of a direct window read's reservation (R82). -/
def Reservation.words (r : Reservation) : List WordRef :=
  match r.owner with
  | .direct refs => refs
  | .commit _ => []
  | .load _ => []

/-- The words that an outstanding burst serves: those of a pass-through burst or of a direct window read (R17). -/
def State.wordsOf (s : State) (o : Outstanding) : List WordRef :=
  match o.owner with
  | .words refs => refs
  | .reservation id => ((s.reservation id).map (·.words)).getD []
  | .noticeWriter => []

/-- The completing word of a slot, when its commit has been issued (R17). -/
def State.issuedCompleting (s : State) (slot : Fin 16) : List WordRef :=
  match s.staging[slot] with
  | .committing _ info => if s.commitIssued slot then [info.completing] else []
  | .free => []
  | .filling _ _ => []

/-- The pending words whose memory operation has been issued: CLEAR leaves them pending (R17). -/
def State.issuedWords (s : State) : List WordRef :=
  s.port.outstanding.flatMap s.wordsOf ++ (List.finRange 16).flatMap s.issuedCompleting

/-- A word outcome at CLEAR: a code is kept, a pending word whose operation has been issued stays pending, and any
other word is ABORTED (R17). -/
def WordOutcome.clear (o : WordOutcome) (issued : Bool) : WordOutcome :=
  match o with
  | .answered c d => .answered c d
  | .unknown => .answered .aborted 0
  | .pending => if issued then .pending else .answered .aborted 0

/-- An entry at CLEAR (R17). -/
def Entry.clear (e : Entry) (n : Initiator) (issued : List WordRef) : Entry :=
  if e.state = .done then e
  else
    { e with
      outcomes := e.outcomes.zipIdx.map fun (x : WordOutcome × Nat) => x.1.clear (issued.contains ⟨n, e.tag, x.2⟩)
      position := e.transfer.length, run := none, state := .inProgress }.settle

/-- A window at CLEAR (R43, R39). -/
def Window.clear (w : Window) : Window := { w.leaveClosed with state := .off }

/-- A staging slot at CLEAR: a commit that has issued its first burst runs on (R63, R64, R65). -/
def StagingSlot.clear (x : StagingSlot) (issued : Bool) : StagingSlot :=
  match x with
  | .committing g info => if issued then .committing g info else .free
  | .free => .free
  | .filling _ _ => .free

/-- A reservation at CLEAR: kept while a burst of it is in memory, or for a commit whose first burst has been issued; the
slot of a load is gone (R85, R110). -/
def Reservation.clear (r : Reservation) : Option Reservation :=
  match r.owner with
  | .commit _ => if r.firstIssued then some r else none
  | .load _ => if r.inFlight then some { r with owner := .load none } else none
  | .direct _ => if r.inFlight then some r else none

/-- Every block at CLEAR: R17, R43, R63 to R65, R84, R85, R110, R139, R164. -/
def State.clearBlocks (s : State) : State :=
  { s with
    partState := .clearing
    queues := Vector.ofFn fun n => s.queues[n].map fun e => e.clear n s.issuedWords
    windows := mapPool s.windows Window.clear
    staging := Vector.ofFn fun i => s.staging[i].clear (s.commitIssued i)
    snapshots := Vector.replicate 24 .free
    interlock := ⟨s.interlock.table.filterMap Reservation.clear, []⟩
    port := { s.port with direct := Vector.replicate 16 [] }
    notice := { s.notice with classes := mapPool s.notice.classes NoticeClass.emptied } }

/-- CLEAR (R185). Events that are held back reach their classes after it and are counted (R164, log 8). -/
def execClear (check : Byte) (s : State) : Host.Outcome State Fault Refusal :=
  .next (s.linkCommand (encodeFrame (.clear check)) 0 fun t => t.clearBlocks.respond .accepted [])

/-! ### CLEARING_END -/

/-- The memory port is quiet (R139). -/
def State.portQuiet (s : State) : Bool :=
  s.port.outstanding.isEmpty && MemoryPort.startRotation.all fun q => !s.holdsBurst q

/-- What ends CLEARING (R186). -/
def State.settled (s : State) : Bool :=
  s.portQuiet && (s.queues.toList.all fun q => q.isEmpty) && s.notice.writer.isNone

/-- CLEARING_END (R186). When CLEARING ends the interlock is empty (R85, R186), so no release is left in transit. -/
def execClearingEnd (s : State) : Host.Outcome State Fault Refusal :=
  .next (s.eventLast fun t => if t.partState = .clearing ∧ t.settled = true then t.setPartState .running else t)

/-! ### FRAME_CUT, UNKNOWN_COMMAND, GET_STATUS -/

/-- FRAME_CUT (R178): nothing is executed. A frame begun while RST_N was low is then no longer in progress (R180). -/
def execFrameCut (s : State) : Host.Outcome State Fault Refusal :=
  .next (if s.rstN then s.event State.cutFrame else s.cutFrame)

/-- UNKNOWN_COMMAND (R179): BAD_FRAME whatever the check, without results. -/
def execUnknownCommand (code : Byte) (_check : Byte) (s : State) : Host.Outcome State Fault Refusal :=
  if knownCodes.contains code then .fault .illFormed
  else .next (s.frame fun t => t.respond .badFrame [])

/-- GET_STATUS's own rule: the flag is returned as it stood and then clear (R183). -/
def State.getStatusRule (s : State) : State :=
  (s.setNotice { s.notice with ackRange := false }).respond .accepted s.statusRecord

/-- GET_STATUS (R183), carried out in both part states (R181). -/
def execGetStatus (check : Byte) (s : State) : Host.Outcome State Fault Refusal :=
  .next (s.frame fun t =>
    if frameSound (encodeFrame (.getStatus check)) then t.getStatusRule else t.respond .badFrame (List.replicate 19 0))

end Sys2Proof.Machine
end

