-- ==== Sys2Proof/Machine/Dispatch.lean ====
section
/-! DEFINITION. The effect of a command on everything but the queue: one arm per constructor. -/

namespace Sys2Proof.Machine

def exec (i : Instr) (s : State) : Host.Outcome State Fault Refusal :=
  match i with
  -- pins
  | .pinReset => Sys2Proof.Machine.execPinReset s
  | .pinResetRelease => Sys2Proof.Machine.execPinResetRelease s
  -- initiator port
  | .requestTaken n address transfer => Sys2Proof.Machine.execRequestTaken n address transfer s
  | .entryStart n => Sys2Proof.Machine.execEntryStart n s
  | .routeWord n => Sys2Proof.Machine.execRouteWord n s
  | .restart n => Sys2Proof.Machine.execRestart n s
  | .holdExpiry n => Sys2Proof.Machine.execHoldExpiry n s
  | .responseReturn n => Sys2Proof.Machine.execResponseReturn n s
  -- memory port
  | .portGrant => Sys2Proof.Machine.execPortGrant s
  | .memoryResponse status data => Sys2Proof.Machine.execMemoryResponse status data s
  -- notice writer, time base, part state
  | .noticeWriteStart => Sys2Proof.Machine.execNoticeWriteStart s
  | .tickClose => Sys2Proof.Machine.execTickClose s
  | .gatherTimeout slot => Sys2Proof.Machine.execGatherTimeout slot s
  | .snapshotTimeout slot => Sys2Proof.Machine.execSnapshotTimeout slot s
  | .clearingEnd => Sys2Proof.Machine.execClearingEnd s
  -- management link
  | .frameCut => Sys2Proof.Machine.execFrameCut s
  | .unknownCommand code check => Sys2Proof.Machine.execUnknownCommand code check s
  | .getStatus check => Sys2Proof.Machine.execGetStatus check s
  | .getWindow window check => Sys2Proof.Machine.execGetWindow window check s
  | .putWindow window base rw rc flags ws rs cls ev check => Sys2Proof.Machine.execPutWindow window base rw rc flags ws rs cls ev check s
  | .enableWindow window check => Sys2Proof.Machine.execEnableWindow window check s
  | .disableWindow window check => Sys2Proof.Machine.execDisableWindow window check s
  | .reopenWindow window check => Sys2Proof.Machine.execReopenWindow window check s
  | .flushWindow window check => Sys2Proof.Machine.execFlushWindow window check s
  | .setTimers gather hold snapshot check => Sys2Proof.Machine.execSetTimers gather hold snapshot check s
  | .setClock mhz check => Sys2Proof.Machine.execSetClock mhz check s
  | .setRing base capacity ackWord faultClass check => Sys2Proof.Machine.execSetRing base capacity ackWord faultClass check s
  | .setClasses mode masked check => Sys2Proof.Machine.execSetClasses mode masked check s
  | .getClass cls check => Sys2Proof.Machine.execGetClass cls check s
  | .restartNotices check => Sys2Proof.Machine.execRestartNotices check s
  | .setPort mode check => Sys2Proof.Machine.execSetPort mode check s
  | .clear check => Sys2Proof.Machine.execClear check s

end Sys2Proof.Machine
end

