-- ==== Sys2Proof/Machine/Step.lean ====
section
/-! DEFINITION. The step: the command at the front of the queue, or a CLK period on an empty queue (log 4). -/

namespace Sys2Proof.Machine

/-- One step. The command at the front of the queue runs on the state with the rest of the queue; on an empty queue one
CLK period passes (R167, log 4). -/
def step (s : State) : Host.Outcome State Fault Refusal :=
  match s.pending with
  | [] => .next s.clkPeriod
  | c :: rest => exec c (s.setPending rest)

/-- The state with the command a table word spells at the front of its queue; the table's words spell none. -/
def State.withFetchWord (s : State) (nbits w : Nat) : State :=
  match decodeTableWord nbits w with
  | some c => s.setPending (c :: s.pending)
  | none => s

end Sys2Proof.Machine
end

