-- ==== Sys2Proof/Safety.lean ====
section
/-! DEFINITION. What a sound state of the part is, rule by rule: the properties the spec says hold at every instant. The
statements of Certificates/Slice0/Obligations.lean say that every step keeps them. -/

namespace Sys2Proof.Machine

/-- A word that has a code other than OK carries the data word zero (R16). -/
def WordOutcome.dataLawful : WordOutcome → Bool
  | .answered code data => code == .ok || data == 0
  | .unknown => true
  | .pending => true

/-- No request queue holds more than four entries (R1), its entries are told apart by tags of their own (R5, log 14), and
their words answered other than OK carry zero (R16). -/
abbrev State.queuesSound (s : State) : Prop :=
  ∀ n : Fin 16, s.queues[n].length ≤ Config.queueDepth ∧ (s.queues[n].map (·.tag)).Nodup
    ∧ ∀ e ∈ s.queues[n], ∀ o ∈ e.outcomes, o.dataLawful = true

/-- At most eight memory operations are outstanding (R127). -/
abbrev State.outstandingBounded (s : State) : Prop := s.port.outstanding.length ≤ Config.outstandingPlaces

/-- At most eight reservations, under numbers of their own, no two naming the same record (R68). -/
abbrev State.reservationsApart (s : State) : Prop :=
  s.interlock.table.length ≤ Config.reservations
    ∧ (s.interlock.table.map (·.id)).Nodup
    ∧ s.interlock.table.Pairwise fun a b => ∀ r ∈ a.records, r ∉ b.records

/-- A class's count is at most 255, it has a first-event record exactly when the count is above 0, and its kinds-seen
set then holds that record's kind and is otherwise empty (R142). -/
abbrev NoticeClass.lawful (c : NoticeClass) : Prop :=
  c.pending ≤ Config.pendingCeiling ∧ (c.first.isSome ↔ 0 < c.pending) ∧ (c.pending = 0 → c.kinds = 0)
    ∧ ∀ e ∈ c.first, e.kind.mask &&& c.kinds = e.kind.mask

/-- Every class is lawful, and the current write carries a count of 1 to 255 with the kind of its first event (R142,
section 8.3). -/
abbrev State.classesLawful (s : State) : Prop :=
  (∀ c : Fin 16, s.notice.classes[c].lawful)
    ∧ ∀ w ∈ s.notice.writer, 1 ≤ w.count ∧ w.count ≤ Config.pendingCeiling ∧ w.first.kind.mask &&& w.kinds = w.first.kind.mask

/-- The in-flight list holds exactly P - O entries in increasing producer order from O, at most the ring's capacity, no
class twice, and a class's flag is set exactly when it is listed (R154). The current write carries P, its class is not in
flight, and there is room for it (R150, R152). -/
abbrev NoticeUnit.ringLawful (n : NoticeUnit) : Prop :=
  n.inFlight.map (·.1) = (List.range (n.produced - n.consumed).toNat).map (fun i => n.consumed + BitVec.ofNat 32 i)
    ∧ (n.inFlight.map (·.2)).Nodup
    ∧ (∀ c : Fin 16, n.classes[c].inFlight = true ↔ c ∈ n.inFlight.map (·.2))
    ∧ (n.ring = none → n.state = .unconfigured ∧ n.writer = none ∧ n.produced = n.consumed)
    ∧ ∀ r ∈ n.ring, r.capacity ≤ 16 ∧ (n.produced - n.consumed).toNat ≤ r.capacity
        ∧ ∀ w ∈ n.writer, w.producer = n.produced ∧ n.classes[w.cls].inFlight = false
            ∧ (n.produced - n.consumed).toNat < r.capacity

/-- No record has more than one staging slot in use (R47). -/
abbrev State.stagingUnique (s : State) : Prop :=
  ∀ i j : Fin 16, s.staging[i].target ≠ none → s.staging[i].target = s.staging[j].target → i = j

/-- The slot is in use for the record (R44). -/
def StagingSlot.holdsRecord (x : StagingSlot) (r : RecordId) : Bool := match x with
  | .free => false
  | .filling g _ => g.target == r
  | .committing g _ => g.target == r

/-- The slot, HELD or LOADING, is reader n's, for a record with the property (R87). -/
def SnapshotSlot.heldFor (x : SnapshotSlot) (n : Initiator) (p : RecordId → Bool) : Bool := match x with
  | .free => false
  | .loading i _ _ _ => i.reader == n && p i.target
  | .held i _ _ => i.reader == n && p i.target

/-- How many snapshot slots reader n holds (R88). -/
abbrev State.slotCount (s : State) (n : Initiator) : Nat :=
  (List.finRange 24).countP fun i => s.snapshots[i].heldFor n fun _ => true

/-- A reader holds at most one snapshot slot in a window and at most four in all (R88). -/
abbrev State.snapshotLimits (s : State) : Prop :=
  (∀ n : Fin 16, s.slotCount n ≤ Config.slotsPerReader)
    ∧ ∀ i j : Fin 24, ∀ x ∈ s.snapshots[i].info, ∀ y ∈ s.snapshots[j].info,
        x.reader = y.reader → x.target.window = y.target.window → i = j

/-- A STREAM window's cursor is below its record_count, and equals it in CLOSED; a TABLE window's cursor is 0 and the
window is not CLOSED (R35, R36). -/
abbrev Window.cursorLawful (w : Window) : Prop :=
  (w.kind = .table → w.cursor = 0 ∧ w.state ≠ .closed)
    ∧ (w.kind = .stream → w.state = .closed → w.cursor = w.recordCount ∧ 0 < w.recordCount)
    ∧ (w.kind = .stream → w.state ≠ .closed → w.cursor < w.recordCount)

/-- Every window's cursor is lawful (R35, R36). -/
abbrev State.cursorsLawful (s : State) : Prop := ∀ w : Fin 32, s.windows[w].cursorLawful

/-- Windows that are not OFF overlap neither each other nor the ring area and do not hold the ack word (R26). -/
abbrev State.windowsApart (s : State) : Prop :=
  (∀ v w : Fin 32, v ≠ w → s.windows[v].state ≠ .off → s.windows[w].state ≠ .off → s.windows[v].overlaps s.windows[w] = false)
    ∧ ∀ w : Fin 32, s.windows[w].state ≠ .off → ∀ r ∈ s.notice.ring, s.windows[w].meetsRing r = false

/-- The record of a FILLING slot. -/
def StagingSlot.gathering : StagingSlot → Option RecordId
  | .filling g _ => some g.target
  | .free => none
  | .committing _ _ => none

/-- A slot that gathers, or that holds or loads a snapshot, belongs to a window that is not OFF (R44, R87). -/
abbrev State.slotsOwned (s : State) : Prop :=
  (∀ i : Fin 16, ∀ r ∈ s.staging[i].gathering, s.windows[r.window].state ≠ .off)
    ∧ ∀ i : Fin 24, ∀ x ∈ s.snapshots[i].info, s.windows[x.target.window].state ≠ .off

/-- Every word of the entry has been routed or answered: the entry is DONE, or waits for outcomes alone (R18). -/
def Entry.routedOut (e : Entry) : Bool := e.state == .done || (e.state == .inProgress && e.routed)

/-- While the part is CLEARING, every window is OFF, nothing waits at the interlock or in a direct list, no slot gathers
or holds a snapshot, and no entry has a word to route (R17, R18, R43, R63, R84, R110, R139, R173). -/
abbrev State.clearingQuiet (s : State) : Prop :=
  s.partState = .clearing →
    (∀ w : Fin 32, s.windows[w].state = .off) ∧ s.interlock.waitList = []
      ∧ (∀ n : Fin 16, s.port.direct[n] = []) ∧ (∀ i : Fin 24, s.snapshots[i] = .free)
      ∧ (∀ i : Fin 16, s.staging[i].gathering = none)
      ∧ ∀ n : Fin 16, ∀ e ∈ s.queues[n], e.routedOut = true

/-! ### Words the statements use -/

/-- The part takes commands, and no hand-over between blocks is on its way or held back (log 8). -/
abbrev State.taking (s : State) : Prop := s.rstN = true ∧ s.transit = [] ∧ s.heldBack = false

/-- Queue n is `older`, then `e`, then `younger`, and no other entry of it has the tag of `e`. -/
abbrev State.queueIs (s : State) (n : Initiator) (older : List Entry) (e : Entry) (younger : List Entry) : Prop :=
  s.queues[n] = older ++ e :: younger ∧ ∀ x ∈ older ++ younger, x.tag ≠ e.tag

/-- The state with queue n made `older`, `e`, `younger`. -/
def State.withQueue (s : State) (n : Initiator) (older : List Entry) (e : Entry) (younger : List Entry) : State :=
  { s with queues := s.queues.set n (older ++ e :: younger) }

/-- The next word that queue n routes is that of `e` at its routing position (R3, R4). -/
abbrev State.routesNext (s : State) (n : Initiator) (older : List Entry) (e : Entry) (younger : List Entry) : Prop :=
  s.taking ∧ s.queueIs n older e younger ∧ (∀ x ∈ older, x.routing = false) ∧ e.state = .inProgress
    ∧ e.position < e.transfer.length

/-- The record's staging slot, the first of any that are in use for it (R46). -/
abbrev State.stagingIs (s : State) (r : RecordId) (slot : Fin 16) : Prop :=
  s.staging[slot].holdsRecord r = true ∧ ∀ j : Fin 16, j < slot → s.staging[j].holdsRecord r = false

/-- No staging slot is in use for the record (R46). -/
abbrev State.noStaging (s : State) (r : RecordId) : Prop := ∀ j : Fin 16, s.staging[j].holdsRecord r = false

/-- Reader n's snapshot slot for the record, the first of any that it holds for it (R90). -/
abbrev State.snapshotIs (s : State) (n : Initiator) (r : RecordId) (slot : Fin 24) : Prop :=
  s.snapshots[slot].heldFor n (fun x => x == r) = true
    ∧ ∀ j : Fin 24, j < slot → s.snapshots[j].heldFor n (fun x => x == r) = false

/-- Reader n holds no snapshot slot for a record with the property (R90, R93). -/
abbrev State.noSnapshot (s : State) (n : Initiator) (p : RecordId → Bool) : Prop :=
  ∀ j : Fin 24, s.snapshots[j].heldFor n p = false

/-- The write at the routing position has passed the access checks of its window: record r, offset o, data d (R32). -/
abbrev State.writeAdmitted (s : State) (n : Initiator) (e : Entry) (r : RecordId) (o : Nat) (d : Word) : Prop :=
  let x := s.windows[r.window]
  let a := e.wordAddress e.position
  s.matchWindow a = some r.window ∧ r.record = x.recordOf a ∧ o = x.offsetOf a
    ∧ (∃ ws, e.transfer = .write ws ∧ ws[e.position]? = some ⟨d, 0xFF⟩) ∧ x.writerSet.getLsbD n.val = true
    ∧ ¬ (x.stamps = true ∧ o + 1 = x.recordWords) ∧ x.state ≠ .closed ∧ (x.kind = .stream → r.record = x.cursor)

/-- The read at the routing position goes to the snapshot unit: record r, offset o (R22). -/
abbrev State.snapshotRead (s : State) (n : Initiator) (e : Entry) (r : RecordId) (o : Nat) : Prop :=
  let x := s.windows[r.window]
  let a := e.wordAddress e.position
  s.matchWindow a = some r.window ∧ r.record = x.recordOf a ∧ o = x.offsetOf a ∧ (∃ k, e.transfer = .read k)
    ∧ x.readerSet.getLsbD n.val = true ∧ x.snapshots = true

/-- The read at the routing position is a direct window read of record r (R22, R90, R92). -/
abbrev State.directRead (s : State) (n : Initiator) (e : Entry) (r : RecordId) : Prop :=
  let x := s.windows[r.window]
  let a := e.wordAddress e.position
  s.matchWindow a = some r.window ∧ r.record = x.recordOf a ∧ (∃ k, e.transfer = .read k)
    ∧ x.readerSet.getLsbD n.val = true ∧ (x.snapshots = false ∨ (s.noSnapshot n (fun y => y == r) ∧ x.offsetOf a ≠ 0))

/-- A link command's frame is answered with a status and results, nothing else changing. -/
def State.answered (s : State) (status : Status) (results : List Byte) : State :=
  { s with link := { s.link with response := some (responseBytes status results) } }

/-- The link takes frames: the part takes commands, and no frame is in progress that began while RST_N was low (R180). -/
abbrev State.linkTakes (s : State) : Prop := s.taking ∧ s.link.heldLow = false

/-- A link command other than GET_STATUS is checked and carried out: the link takes frames, the part is RUNNING and the
frame's bytes sum to 0 (R177, R180, R181). -/
abbrev State.linkOpen (s : State) (frame : List Byte) : Prop :=
  s.linkTakes ∧ s.partState = .running ∧ byteSum frame = 0

/-- The command is a frame of one of the fifteen command codes (section 10.6). -/
def linkCommandTerm (c : Instr) : Bool := match encodeFrame c with
  | [] => false
  | code :: _ => knownCodes.contains code

/-- Result bytes of a command (section 10.6). -/
def resultBytes : Instr → Nat
  | .getStatus _ => 19
  | .getWindow _ _ => 22
  | .getClass _ _ => 17
  | .pinReset | .pinResetRelease | .requestTaken _ _ _ | .entryStart _ | .routeWord _ | .restart _ | .holdExpiry _
  | .responseReturn _ | .portGrant | .memoryResponse _ _ | .noticeWriteStart | .tickClose | .gatherTimeout _
  | .snapshotTimeout _ | .clearingEnd | .frameCut | .unknownCommand _ _ | .putWindow _ _ _ _ _ _ _ _ _ _
  | .enableWindow _ _ | .disableWindow _ _ | .reopenWindow _ _ | .flushWindow _ _ | .setTimers _ _ _ _ | .setClock _ _
  | .setRing _ _ _ _ _ | .setClasses _ _ _ | .restartNotices _ | .setPort _ _ | .clear _ => 0

end Sys2Proof.Machine
end

