-- ==== Sys2Proof/Certificates/Slice0/Obligations.lean ====
section
/-! DEFINITION. The statements about the part, from the numbered rules of spec/. A command that is due answers a next
state, which each statement gives. -/

open Sys2Proof Sys2Proof.Machine

/-! ### The step and the queue of commands -/

/-- A step runs the command at the front of the queue on the state with the queue's rest. -/
def Obligations.StepRunsTheFrontCommand : Prop :=
  ∀ (c : Instr) (rest : List Instr) (s : State), step { s with pending := c :: rest } = exec c { s with pending := rest }

/-- No command changes the queue it was taken from, or the level of RST_N unless it is one of the two pin events. While
RST_N is low a command other than those two changes nothing but the link: a frame gets no response and stays in progress,
a cut frame has ended (R19, R66, R86, R111, R140, R165, R180; log 2, log 13). -/
def Obligations.CommandsLeaveQueueAndResetAlone : Prop :=
  (∀ (c : Instr) (s t : State), exec c s = .next t →
    t.pending = s.pending ∧ (c ≠ .pinReset → c ≠ .pinResetRelease → t.rstN = s.rstN))
  ∧ ∀ (c : Instr) (s : State), s.rstN = false → c.wellFormed = true → c ≠ .pinReset → c ≠ .pinResetRelease →
    exec c s = .next (if c = .frameCut then { s with link := ⟨none, false⟩ }
      else if encodeFrame c ≠ [] then { s with link := ⟨none, true⟩ } else s)

/-- The only stop is on a term that no pin can carry; every well-formed command answers a next state in every state (the
model's choice, log 15). -/
def Obligations.WellFormedCommandsComplete : Prop :=
  ∀ (c : Instr) (s : State), (c.wellFormed = true → ∃ t, exec c s = .next t)
    ∧ (c.wellFormed = false → exec c s = .fault .illFormed)

/-! ### Hand-overs between blocks -/

/-- What one block has handed to another is taken before the next command, in order: an event is counted by its class, a
freed slot has its window's drain check made, which reads the present tick or the closing tick of the expiry that freed it
(R166; log 24), a released reservation leaves the table and a scan follows; the events those drain checks raise are
counted next. A PIN_RESET_RELEASE with RST_N high is no event of the part, and hand-overs alone move in it: the first
holds them back, each further one takes the oldest. A command that finds them held back comes before those left, which
stay in transit ahead of its own, but for CLEARING_END, at which the interlock is empty (R85, R186): so a routing may come
before a drain check (R41), CLEAR (R164, R173) or GET_STATUS (R182) before an event. These steps and orders are the
model's (log 8); NOTICE_WRITE_START, which is tested at each hand-over, has a statement of its own (R150). -/
def Obligations.HandOversAreTakenInOrder : Prop :=
  (∀ (s : State) (h : HandOver) (rest : List HandOver),
    s.takeHandOvers [] = s ∧ s.takeHandOvers (h :: rest) = (s.takeHandOver h).takeHandOvers rest)
  ∧ (∀ s : State, (∀ k e, s.takeHandOver (.event k e) = s.countEvent k e)
    ∧ (∀ w, s.takeHandOver (.slotFreed w none) = s.drainCheck w ⟨s.timeBase.counter, false⟩)
    ∧ (∀ w t, s.takeHandOver (.slotFreed w (some t)) = s.drainCheck w ⟨t, true⟩) ∧ ∀ id, s.takeHandOver (.release id) = s.release id)
  ∧ (∀ s : State, s.rstN = true → s.heldBack = false →
      let first : State := State.takeHandOvers { s with transit := [] } s.transit
      let settled : State := State.takeHandOvers { first with transit := [] } first.transit
      (∀ h ∈ first.transit, ∃ k e, h = .event k e) ∧ settled.transit = []
      ∧ (∀ c : Instr, c ≠ .pinReset → c ≠ .pinResetRelease → c ≠ .noticeWriteStart → exec c s = exec c settled)
      ∧ (s.pending = [] → step s = step settled))
  ∧ (∀ s : State, s.rstN = true → s.heldBack = true →
      let before : State := { s with transit := [], heldBack := false }
      (∀ c : Instr, c.wellFormed = true → c ≠ .pinReset → c ≠ .pinResetRelease → c ≠ .clearingEnd →
        ∃ t, exec c before = .next t ∧ exec c s = .next { t with transit := s.transit ++ t.transit })
      ∧ exec .clearingEnd s = exec .clearingEnd { s with heldBack := false }
      ∧ (s.pending = [] → ∃ t, step before = .next t ∧ step s = .next { t with transit := s.transit ++ t.transit }))
  ∧ ∀ (s : State) (h : HandOver) (rest : List HandOver), s.rstN = true → s.transit = h :: rest →
      (s.heldBack = false → exec .pinResetRelease s = .next { s with heldBack := true })
      ∧ (s.heldBack = true → exec .pinResetRelease s = .next (State.takeHandOver { s with transit := rest } h))

/-! ### Reset -/

/-- PIN_RESET brings every block to its pin-reset values, and so does the release, which leaves RST_N high; with RST_N
high already and nothing in transit the release does nothing, and the level of CS_N, which the outside drives, stays (log
1, log 2, log 13). The values are those of R19, R42, R66, R86, R111, R140, R165, R166, R167, R170 and R184; the link's
response, the response port's latch and the model's own count are log 13, 16 and 18, what is in transit or held back log
8. -/
def Obligations.PinResetTakesEveryResetValue : Prop :=
  let after (level heldLow : Bool) (queue : List Instr) : State :=
    { rstN := level, partState := .running
      timeBase := { counter := 0, declaredClock := 100, position := 0, gatherTimeout := 1000, holdTimeout := 250,
                    snapshotTimeout := 2000 }
      windows := Vector.replicate 32
        { state := .off, base := 0, recordWords := 0, recordCount := 0, kind := .table, snapshots := false,
          stamps := false, reload := false, writerSet := 0, readerSet := 0, cls := 0,
          enables := ⟨false, false, false, false⟩, cursor := 0, sequence := 0 }
      queues := Vector.replicate 16 [], staging := Vector.replicate 16 .free, snapshots := Vector.replicate 24 .free
      snapshotUses := 0, interlock := ⟨[], []⟩
      port := { outstanding := [], direct := Vector.replicate 16 [], mode := .rotating,
                rotation := [.notice, .commit, .load, .direct], lastServed := 15 }
      notice := { state := .unconfigured, ring := none, faultClass := 0, produced := 0, consumed := 0, inFlight := []
                  classes := Vector.replicate 16 { pending := 0, first := none, kinds := 0, masked := true, inFlight := false }
                  mode := .fixed, lastDelivered := 15, writer := none, ackRange := false }
      link := ⟨none, heldLow⟩, lastResponse := none, transit := [], heldBack := false, pending := queue }
  State.reset = after true false []
    ∧ ∀ s : State, exec .pinReset s = .next (after false s.link.heldLow s.pending)
      ∧ (s.rstN = false → exec .pinResetRelease s = .next (after true s.link.heldLow s.pending))
      ∧ (s.rstN = true → s.transit = [] → exec .pinResetRelease s = .next s)

/-- The machine after reset has every property of Safety.lean. -/
def Obligations.ResetHasEveryInvariant : Prop :=
  State.reset.queuesSound ∧ State.reset.outstandingBounded ∧ State.reset.reservationsApart ∧ State.reset.classesLawful
    ∧ State.reset.notice.ringLawful ∧ State.reset.stagingUnique ∧ State.reset.snapshotLimits
    ∧ State.reset.cursorsLawful ∧ State.reset.windowsApart ∧ State.reset.slotsOwned ∧ State.reset.clearingQuiet

/-! ### Frames of the management link -/

/-- The bytes of a frame spell its command, bytes after the check byte being ignored, and a frame that ends before its
check byte is cut (R176, R178, R179, R188). -/
def Obligations.FramesDecodeToTheirCommand : Prop :=
  ∀ c : Instr, c.wellFormed = true → encodeFrame c ≠ [] →
    (∀ trailing, decodeFrame (encodeFrame c ++ trailing) = c)
      ∧ ∀ k, k < (encodeFrame c).length → decodeFrame ((encodeFrame c).take k) = .frameCut

/-- Before a command's own rule is looked at: a damaged frame is answered BAD_FRAME with zero results and changes nothing,
then while the part is CLEARING every command but GET_STATUS is answered BUSY with zero results and changes nothing, then
a window number above 31 or a class number above 15 is answered BAD_ARG (R177, R181). A cut frame executes nothing and
gets no response (R178), and an unknown command is answered BAD_FRAME whatever its check, without results, and changes
nothing (R179). The sum of a response's bytes is 0 (R177), and the five status bytes are those of R189. A frame in
progress since RST_N was low is discarded without response, whatever its command, until CS_N rises (R180). The link's
response latch and the flag that remembers such a frame are the model's (log 13). -/
def Obligations.FramesAreCheckedBeforeTheirRule : Prop :=
  (∀ (c : Instr) (s : State), c.wellFormed = true → linkCommandTerm c = true → s.linkTakes →
    (byteSum (encodeFrame c) ≠ 0 → exec c s = .next (s.answered .badFrame (List.replicate (resultBytes c) 0)))
    ∧ (byteSum (encodeFrame c) = 0 → s.partState = .clearing → (∀ k, c ≠ .getStatus k) →
        exec c s = .next (s.answered .busy (List.replicate (resultBytes c) 0)))
    ∧ (s.linkOpen (encodeFrame c) →
        (∀ w ∈ [(encodeFrame c).getD 1 0], (encodeFrame c).headD 0 ∈ [0x20, 0x21, 0x22, 0x23, 0x24, 0x25] → 31 < w.toNat →
          exec c s = .next (s.answered .badArg (List.replicate (resultBytes c) 0)))
        ∧ ∀ k check, c = .getClass k check → 15 < k.toNat →
          exec c s = .next (s.answered .badArg (List.replicate 17 0))))
  ∧ (∀ (s : State) (code check : Byte),
      (s.rstN = false ∨ s.taking → exec .frameCut s = .next { s with link := ⟨none, false⟩ })
      ∧ (s.linkTakes → code ∉ knownCodes → exec (.unknownCommand code check) s = .next (s.answered .badFrame [])))
  ∧ (∀ (c : Instr) (s : State), c.wellFormed = true → encodeFrame c ≠ [] → s.taking → s.link.heldLow = true →
      exec c s = .next { s with link := ⟨none, false⟩ })
  ∧ (∀ (x : Status) (r : List Byte), byteSum (responseBytes x r) = 0 ∧ (responseBytes x r).dropLast = x.byte :: r)
  ∧ Status.byte .accepted = 0 ∧ Status.byte .badFrame = 1 ∧ Status.byte .badArg = 2 ∧ Status.byte .badState = 3
  ∧ Status.byte .busy = 4

/-- MISO carries FFh in every byte time of a frame's command phase, then the response bytes, then FFh; FFh in every byte
time of a frame without response, which a frame is that meets RST_N low or has been in progress since then (R176, R180).
The response of a frame that the link takes is a status byte, its command's result bytes and a check byte, fixed at the
taking (R176, R177). The link's latch is the model's (log 13). -/
def Obligations.MisoCarriesTheResponse : Prop :=
  (∀ (l : Link) (command time : Nat),
    (time ≤ command → l.miso command time = 0xFF)
    ∧ (l.response = none → l.miso command time = 0xFF)
    ∧ ∀ r, l.response = some r → (∀ i b, r[i]? = some b → l.miso command (command + 1 + i) = b)
        ∧ (command + r.length < time → l.miso command time = 0xFF))
  ∧ (∀ (x : Status) (results : List Byte), (responseBytes x results).length = results.length + 2)
  ∧ ∀ (c : Instr) (s t : State), c.wellFormed = true → encodeFrame c ≠ [] → exec c s = .next t →
    (s.linkTakes → ∃ (x : Status) (results : List Byte), results.length = resultBytes c
      ∧ t.link = ⟨some (responseBytes x results), false⟩)
    ∧ (s.rstN = false ∨ (s.taking ∧ s.link.heldLow = true) → ∀ command time, t.link.miso command time = 0xFF)

/-- GET_STATUS is answered in both part states, returns the record of R190 as the state stands, and clears ACK_RANGE alone
(R183). With nothing in transit between blocks every item is read at the same instant (log 22). Right after reset every
byte of the record is zero. -/
def Obligations.GetStatusReportsAndClearsAckRange : Prop :=
  (∀ (s : State) (check : Byte), s.linkTakes → byteSum [0x10, check] = 0 →
    let part : Byte := match s.partState with | .running => 0 | .clearing => 1
    let unit : Byte := match s.notice.state with | .unconfigured => 0 | .running => 1 | .halted => 2
    let halted : Nat := match s.notice.state with | .halted => 4 | .running => 0 | .unconfigured => 0
    let lines : Nat :=
      (if s.notice.ackRange then 1 else 0) + (if s.notice.produced = s.notice.consumed then 0 else 2) + halted
    let waiting (r : WaitReason) : BitVec 16 := BitVec.ofNat 16 (s.interlock.waitList.countP fun x => x.reason == r)
    let results : List Byte := [part, unit] ++ bytes4 s.notice.produced ++ bytes4 s.notice.consumed
      ++ [BitVec.ofNat 8 lines, BitVec.ofNat 8 (s.staging.toList.countP fun x => x != StagingSlot.free),
          BitVec.ofNat 8 (s.snapshots.toList.countP fun x => x != SnapshotSlot.free), BitVec.ofNat 8 s.interlock.table.length]
      ++ bytes2 (waiting .conflict) ++ bytes2 (waiting .tableFull) ++ [BitVec.ofNat 8 s.port.outstanding.length]
    exec (.getStatus check) s =
      .next (State.answered { s with notice := { s.notice with ackRange := false } } .accepted results))
  ∧ exec (.getStatus 0xF0) State.reset = .next (State.reset.answered .accepted (List.replicate 19 0))

/-- GET_WINDOW returns every field of the entry in the layout of R191, and GET_CLASS the class in the layout of R192 with
the carried flag of R149; neither changes anything. -/
def Obligations.GetCommandsReturnTheirRecord : Prop :=
  (∀ (s : State) (w : WindowId) (check : Byte), let b : Byte := BitVec.ofNat 8 w.val
    s.linkOpen [0x20, b, check] →
      let x := s.windows[w]
      let state : Byte := match x.state with | .off => 0 | .active => 1 | .draining => 2 | .closed => 3
      let stream : Nat := match x.kind with | .stream => 1 | .table => 0
      let flags : Nat := stream + (if x.snapshots then 2 else 0) + (if x.stamps then 4 else 0) + (if x.reload then 8 else 0)
      let enables : Nat := (if x.enables.committed then 1 else 0) + (if x.enables.wrapped then 2 else 0)
        + (if x.enables.snapshotExpired then 4 else 0) + (if x.enables.refused then 8 else 0)
      exec (.getWindow b check) s = .next (s.answered .accepted
        ([state] ++ bytes5 x.base ++ [BitVec.ofNat 8 x.recordWords] ++ bytes2 (BitVec.ofNat 16 x.recordCount)
          ++ [BitVec.ofNat 8 flags] ++ bytes2 x.writerSet ++ bytes2 x.readerSet
          ++ [BitVec.ofNat 8 x.cls.val, BitVec.ofNat 8 enables] ++ bytes2 (BitVec.ofNat 16 x.cursor) ++ bytes4 x.sequence)))
  ∧ ∀ (s : State) (c : ClassId) (check : Byte), let b : Byte := BitVec.ofNat 8 c.val
    s.linkOpen [0x42, b, check] →
      let x := s.notice.classes[c]
      let window := x.first.bind (·.window)
      let record := x.first.bind (·.record)
      let initiator := x.first.bind (·.initiator)
      let sequence := x.first.bind (·.sequence)
      let carried : Nat := match s.notice.writer with | some v => if v.cls = c then 64 else 0 | none => 0
      let flags : Nat := (if window.isSome then 1 else 0) + (if record.isSome then 2 else 0)
        + (if initiator.isSome then 4 else 0) + (if sequence.isSome then 8 else 0) + (if x.masked then 16 else 0)
        + (if x.inFlight then 32 else 0) + carried
      let kind : Byte := match x.first with | some e => BitVec.ofNat 8 e.kind.code | none => 0
      let windowByte : Byte := match window with | some v => BitVec.ofNat 8 v.val | none => 0
      let recordField : BitVec 16 := match record with | some r => BitVec.ofNat 16 r | none => 0
      let initiatorByte : Byte := match initiator with | some n => BitVec.ofNat 8 n.val | none => 0
      let time : Tick := match x.first with | some e => e.time | none => 0
      exec (.getClass b check) s = .next (s.answered .accepted
        ([BitVec.ofNat 8 x.pending, kind, BitVec.ofNat 8 flags, windowByte] ++ bytes2 recordField ++ [initiatorByte]
          ++ bytes4 (sequence.getD 0) ++ bytes4 time ++ bytes2 (x.kinds.setWidth 16)))

/-! ### Commands that set the part up -/

/-- SET_TIMERS, SET_PORT and SET_CLASSES take their arguments all together or not at all (R171, R137, R148): a gather or
hold timeout of 0 and a mode byte other than 0 and 1 are answered BAD_ARG; SET_PORT sets the rotation order back to its
start; SET_CLASSES masks exactly the classes of the set.

SET_CLOCK takes a clock of 20 to 400 MHz; the tick in progress closes at once when the divider has already counted as far,
and the position is kept otherwise (R168). -/
def Obligations.SetCommandsTakeTheirArguments : Prop :=
  (∀ (s : State) (g h sn masked : BitVec 16) (mode check : Byte),
     (s.linkOpen (encodeFrame (.setTimers g h sn check)) → exec (.setTimers g h sn check) s = .next (
       if g = 0 ∨ h = 0 then s.answered .badArg []
       else State.answered { s with timeBase := { s.timeBase with
         gatherTimeout := g.toNat, holdTimeout := h.toNat, snapshotTimeout := sn.toNat } } .accepted []))
     ∧ (s.linkOpen (encodeFrame (.setPort mode check)) → exec (.setPort mode check) s = .next (
       if mode = 0 ∨ mode = 1 then
         State.answered { s with port := { s.port with
           mode := if mode = 0 then .fixed else .rotating, rotation := [.notice, .commit, .load, .direct] } } .accepted []
       else s.answered .badArg []))
     ∧ (s.linkOpen (encodeFrame (.setClasses mode masked check)) → exec (.setClasses mode masked check) s = .next (
       if mode = 0 ∨ mode = 1 then
         State.answered { s with notice := { s.notice with
           mode := if mode = 0 then .fixed else .rotating
           classes := Vector.ofFn fun c => { s.notice.classes[c] with masked := masked.getLsbD c.val } } } .accepted []
       else s.answered .badArg [])))
  ∧ (∀ (s : State) (mhz : BitVec 16) (check : Byte), s.linkOpen (encodeFrame (.setClock mhz check)) →
     let declared : State := { s with timeBase := { s.timeBase with declaredClock := mhz.toNat } }
     (20 ≤ mhz.toNat ∧ mhz.toNat ≤ 400 → ∃ closed, exec .tickClose declared = .next closed
       ∧ exec (.setClock mhz check) s =
           .next ((if mhz.toNat ≤ s.timeBase.position then closed else declared).answered .accepted []))
     ∧ (mhz.toNat < 20 ∨ 400 < mhz.toNat → exec (.setClock mhz check) s = .next (s.answered .badArg [])))

/-- SET_RING is answered BAD_STATE while an entry is unacknowledged or a write is in progress, then BAD_ARG when an
argument fails, and otherwise sets ring, ack word and fault class with P and O 0, a HALTED unit staying HALTED (R145,
R146, R147). -/
def Obligations.SetRingChecksThenStarts : Prop :=
  ∀ (s : State) (base ack : Addr) (cap fault check : Byte), s.linkOpen (encodeFrame (.setRing base cap ack fault check)) →
    let ringTop := base.toNat + 32 * cap.toNat
    let allowed : Prop :=
      cap.toNat ∈ [4, 8, 16] ∧ base.toNat % (32 * cap.toNat) = 0 ∧ ringTop ≤ 2 ^ 40 ∧ ack.toNat % 8 = 0
        ∧ ¬ (base.toNat ≤ ack.toNat ∧ ack.toNat < ringTop) ∧ fault.toNat ≤ 15
        ∧ ∀ w : WindowId, s.windows[w].state ≠ .off → ∀ x : Nat,
            s.windows[w].base.toNat ≤ x →
            x < s.windows[w].base.toNat + s.windows[w].recordWords * 8 * s.windows[w].recordCount → ¬ (base.toNat ≤ x ∧ x < ringTop) ∧ x ≠ ack.toNat
    (s.notice.inFlight ≠ [] ∨ s.notice.writer ≠ none →
      exec (.setRing base cap ack fault check) s = .next (s.answered .badState []))
    ∧ (s.notice.inFlight = [] → s.notice.writer = none → ¬ allowed →
      exec (.setRing base cap ack fault check) s = .next (s.answered .badArg []))
    ∧ (s.notice.inFlight = [] → s.notice.writer = none → allowed → ∃ f : ClassId, f.val = fault.toNat
      ∧ exec (.setRing base cap ack fault check) s = .next (State.answered { s with notice := { s.notice with
          state := if s.notice.state = .halted then .halted else .running
          ring := some ⟨base, cap.toNat, ack⟩, faultClass := f, produced := 0, consumed := 0 } } .accepted []))

/-- RESTART_NOTICES brings a HALTED unit to RUNNING, which releases FLT_N, and is answered BAD_STATE in the other states
and BUSY while the part is CLEARING; P, O, the in-flight list and the classes stay (R157, R158). -/
def Obligations.RestartNoticesLeavesHalted : Prop :=
  ∀ (s : State) (check : Byte), s.linkTakes → byteSum [0x43, check] = 0 →
    (s.partState = .clearing → exec (.restartNotices check) s = .next (s.answered .busy []))
    ∧ (s.partState = .running → s.notice.state = .halted → s.notice.fltAsserted = true ∧ ∃ t, exec (.restartNotices check) s = .next t
      ∧ t = State.answered { s with notice := { s.notice with state := .running } } .accepted []
      ∧ t.notice.fltAsserted = false)
    ∧ (s.partState = .running → s.notice.state ≠ .halted →
      exec (.restartNotices check) s = .next (s.answered .badState []))

/-! ### Window commands -/

/-- PUT_WINDOW is answered BAD_STATE for a window that is not OFF, BAD_ARG when a field fails R24, and otherwise takes
every carried value at once with cursor 0, keeping state and sequence (R23, R24). -/
def Obligations.PutWindowTakesAllOrNothing : Prop :=
  ∀ (s : State) (w : WindowId) (base : Addr) (rw flags cls ev check : Byte) (rc ws rs : BitVec 16),
    let c : Instr := .putWindow (BitVec.ofNat 8 w.val) base rw rc flags ws rs cls ev check
    s.linkOpen (encodeFrame c) →
    let x := s.windows[w]
    let valid : Prop := rw.toNat ∈ [2, 4, 8, 16, 32] ∧ 1 ≤ rc.toNat ∧ rc.toNat ≤ 4096 ∧ base.toNat % 8 = 0 ∧ cls.toNat ≤ 15
      ∧ flags.toNat < 16 ∧ ev.toNat < 16
    (x.state ≠ .off → exec c s = .next (s.answered .badState []))
    ∧ (x.state = .off → ¬ valid → exec c s = .next (s.answered .badArg []))
    ∧ (x.state = .off → valid → ∃ k : ClassId, k.val = cls.toNat
      ∧ let put : Window :=
          { state := .off, base := base, recordWords := rw.toNat, recordCount := rc.toNat
            kind := if flags.getLsbD 0 then .stream else .table
            snapshots := flags.getLsbD 1, stamps := flags.getLsbD 2, reload := flags.getLsbD 3
            writerSet := ws, readerSet := rs, cls := k
            enables := ⟨ev.getLsbD 0, ev.getLsbD 1, ev.getLsbD 2, ev.getLsbD 3⟩
            cursor := 0, sequence := x.sequence }
        exec c s = .next (State.answered { s with windows := s.windows.set w put } .accepted []))

/-- ENABLE_WINDOW is answered BAD_STATE outside OFF, BAD_ARG when the geometry fails the first group of R26, BAD_STATE
while a pass-through write into the range waits, and otherwise makes the window ACTIVE with cursor and sequence 0 (R25,
R26). -/
def Obligations.EnableWindowChecksGeometry : Prop :=
  ∀ (s : State) (w : WindowId) (check : Byte), let b : Byte := BitVec.ofNat 8 w.val
    s.linkOpen [0x22, b, check] →
    let x := s.windows[w]
    let top := x.base.toNat + x.recordWords * 8 * x.recordCount
    let inRange : Nat → Prop := fun a => x.base.toNat ≤ a ∧ a < top
    let legal : Prop := x.recordWords ∈ [2, 4, 8, 16, 32] ∧ 1 ≤ x.recordCount ∧ x.recordCount ≤ 4096
      ∧ x.base.toNat % (x.recordWords * 8) = 0 ∧ top ≤ 2 ^ 40
      ∧ (∀ v : WindowId, v ≠ w → s.windows[v].state ≠ .off →
          ∀ a, inRange a → ¬ (s.windows[v].base.toNat ≤ a
            ∧ a < s.windows[v].base.toNat + s.windows[v].recordWords * 8 * s.windows[v].recordCount))
      ∧ ∀ r ∈ s.notice.ring, (∀ a, inRange a → ¬ (r.base.toNat ≤ a ∧ a < r.base.toNat + 32 * r.capacity))
          ∧ ¬ inRange r.ackWord.toNat
    let handedOver : Prop := ∃ (n : Initiator) (a : Addr) (words : List WriteWord) (refs : List WordRef),
      DirectItem.passThrough (.write a words) refs ∈ s.port.direct[n]
        ∧ ∃ i, i < words.length ∧ inRange (a + BitVec.ofNat 40 (8 * i)).toNat
    let inRun : Prop := ∃ (n : Initiator) (e : Entry) (words : List WriteWord) (r : Run), e ∈ s.queues[n]
      ∧ e.transfer = .write words ∧ e.run = some r ∧ r.window = none
      ∧ ∃ i, i < r.count ∧ inRange (e.wordAddress (r.first + i)).toNat
    (x.state ≠ .off → exec (.enableWindow b check) s = .next (s.answered .badState []))
    ∧ (x.state = .off → ¬ legal → exec (.enableWindow b check) s = .next (s.answered .badArg []))
    ∧ (x.state = .off → legal → (handedOver ∨ inRun) → exec (.enableWindow b check) s = .next (s.answered .badState []))
    ∧ (x.state = .off → legal → ¬ (handedOver ∨ inRun) → exec (.enableWindow b check) s = .next (
        State.answered { s with windows := s.windows.set w { x with state := .active, cursor := 0, sequence := 0 } }
          .accepted []))

/-- DISABLE_WINDOW puts an ACTIVE or CLOSED window in DRAINING, a CLOSED one with cursor 0, and the drain check follows at
once: a window that owns no slot becomes OFF and raises DRAINED, and its held words are owed a restart. A DRAINING window
is left alone, an OFF one answered BAD_STATE (R27, R29, R39). -/
def Obligations.DisableWindowDrains : Prop :=
  ∀ (s : State) (w : WindowId) (check : Byte), let b : Byte := BitVec.ofNat 8 w.val
    s.linkOpen [0x23, b, check] →
    let x := s.windows[w]
    let drained (state : WindowState) : Window :=
      { x with state := state, cursor := if x.state = .closed then 0 else x.cursor }
    let owned : Prop := (∃ i : Fin 16, ∃ r ∈ s.staging[i].target, r.window = w)
      ∨ ∃ i : Fin 24, ∃ j ∈ s.snapshots[i].info, j.target.window = w
    (x.state = .off → exec (.disableWindow b check) s = .next (s.answered .badState []))
    ∧ (x.state = .draining → exec (.disableWindow b check) s = .next (s.answered .accepted []))
    ∧ (x.state = .active ∨ x.state = .closed → owned → exec (.disableWindow b check) s = .next (
        State.answered { s with windows := s.windows.set w (drained .draining) } .accepted []))
    ∧ (x.state = .active ∨ x.state = .closed → ¬ owned → exec (.disableWindow b check) s = .next (
        ((State.raise { s with windows := s.windows.set w (drained .off) } x.cls
            ⟨.drained, some w, none, none, none, s.timeBase.counter⟩).markRestarts
          (fun h => h.target.window == w) s.now).answered .accepted []))

/-- REOPEN_WINDOW makes a CLOSED window ACTIVE with cursor 0, its sequence going on, and changes nothing else; in any
other state, and so for every TABLE window, it is answered BAD_STATE and changes nothing (R30). -/
def Obligations.ReopenWindowRestartsTheCursor : Prop :=
  ∀ (s : State) (w : WindowId) (check : Byte), let b : Byte := BitVec.ofNat 8 w.val
    s.linkOpen [0x24, b, check] →
    (s.windows[w].state = .closed → exec (.reopenWindow b check) s = .next (
      State.answered { s with windows := s.windows.set w { s.windows[w] with state := .active, cursor := 0 } }
        .accepted []))
    ∧ (s.windows[w].state ≠ .closed → exec (.reopenWindow b check) s = .next (s.answered .badState []))
    ∧ (s.windows[w].cursorLawful → s.windows[w].kind = .table → exec (.reopenWindow b check) s = .next (s.answered .badState []))

/-- FLUSH_WINDOW of an OFF window is answered BAD_STATE; otherwise it abandons, in ascending record order, exactly the
window's FILLING slots, each raising ABANDONED with the time of the command before it becomes FREE (R58, R60). -/
def Obligations.FlushWindowAbandonsFillingSlots : Prop :=
  ∀ (s : State) (w : WindowId) (check : Byte), let b : Byte := BitVec.ofNat 8 w.val
    s.linkOpen [0x25, b, check] →
    (s.windows[w].state = .off → exec (.flushWindow b check) s = .next (s.answered .badState []))
    ∧ (s.windows[w].state ≠ .off → ∃ slots : List (Fin 16), slots.Nodup
      ∧ (∀ i, i ∈ slots ↔ ∃ g t, s.staging[i] = .filling g t ∧ g.target.window = w)
      ∧ (slots.map fun i => ((s.staging[i].target.map (·.record)).getD 0)).Pairwise (· ≤ ·)
      ∧ exec (.flushWindow b check) s = .next ((slots.foldl (fun t i => t.abandon i s.now) s).answered .accepted [])
      ∧ ∀ i ∈ slots, ∀ (t : State) g timer, t.staging[i] = .filling g timer →
          t.abandon i s.now = (t.raise t.windows[g.target.window].cls
            ⟨.abandoned, some g.target.window, some g.target.record, some g.owner, none, s.timeBase.counter⟩).freeStaging i s.now)

/-! ### The initiator port -/

/-- A request is taken while RST_N is high, the part is RUNNING and the queue holds fewer than four entries: it joins the
tail as a WAITING entry with every outcome unknown (R1), or, when it crosses a 64-byte boundary, as a DONE entry with
every word REFUSED, REFUSED being raised to the fault class (R2). Otherwise it stays outside and nothing changes. The
entry's tag, by which the model tells entries apart, is one no entry of the queue has (log 14). -/
def Obligations.RequestsJoinTheirQueue : Prop :=
  ∀ (s : State) (n : Initiator) (a : Addr) (x : Transfer), 1 ≤ x.length → x.length ≤ 8 → a.toNat % 8 = 0 →
    (s.taking → s.partState = .running → s.queues[n].length < 4 → ∃ tag : Fin 4, (∀ e ∈ s.queues[n], e.tag ≠ tag)
      ∧ let entry (state : EntryState) (o : WordOutcome) : Entry := ⟨tag, a, x, state, 0, List.replicate x.length o, none, none⟩
        let joined (e : Entry) : State := { s with queues := s.queues.set n (s.queues[n] ++ [e]) }
        exec (.requestTaken n a x) s = .next (
          if a.toNat % 64 / 8 + x.length ≤ 8 then joined (entry .waiting .unknown)
          else (joined (entry .done (.answered .refused 0))).raise s.notice.faultClass
            ⟨.refused, none, none, some n, none, s.timeBase.counter⟩))
    ∧ (s.rstN = false ∨ (s.taking ∧ (s.partState = .clearing ∨ 4 ≤ s.queues[n].length)) → exec (.requestTaken n a x) s = .next s)

/-- The oldest WAITING entry starts when every older entry is DONE or has routed all its words; an older entry that is
HELD or still routing keeps it waiting (R3). When a tick close's expiry lets an entry start, the start is part of that
close: the oldest WAITING entry then keeps the closing tick, and its routings read it (R166; log 7). -/
def Obligations.OldestWaitingEntryStarts : Prop :=
  (∀ (s : State) (n : Initiator) (older younger : List Entry) (e : Entry), s.taking →
    s.queues[n] = older ++ e :: younger →
    (∀ x ∈ older, x.state = .done ∨ (x.state = .inProgress ∧ x.position = x.transfer.length)) →
    (e.state = .waiting → exec (.entryStart n) s = .next (s.withQueue n older { e with state := .inProgress } younger))
    ∧ ((∃ h, e.state = .held h) ∨ (e.state = .inProgress ∧ e.position ≠ e.transfer.length) → exec (.entryStart n) s = .next s))
  ∧ (∀ (s : State) (n : Initiator) (m : Moment), s.passClosing n m =
      if m.ofClose then { s with queues := s.queues.set n (startAtClose m.tick s.queues[n]) } else s)
  ∧ (∀ (t : Tick) (older younger : List Entry) (e : Entry), (∀ x ∈ older, x.state ≠ .waiting) →
      startAtClose t older = older
      ∧ (e.state = .waiting → startAtClose t (older ++ e :: younger) = older ++ { e with closing := some t } :: younger))
  ∧ (∀ (e : Entry) (m : Moment), e.moment m = match e.closing with | none => m | some t => ⟨t, true⟩)
  ∧ ∀ s : State, s.now = ⟨s.timeBase.counter, false⟩

/-- The hold timer of a HELD entry that a tick close has expired answers the unrouted words EXPIRED, leaves the entry DONE
or waiting for its pending words, and raises HOLD_EXPIRED whatever the enables; the next entry may then start as part of
that close. Until a tick close expires the timer nothing happens (R12, R166, R169; log 6, log 7). -/
def Obligations.HoldExpiryAnswersTheRest : Prop :=
  ∀ (s : State) (n : Initiator) (older younger : List Entry) (e : Entry) (h : Hold), s.taking →
    s.queueIs n older e younger → (∀ x ∈ older, ∀ k, x.state ≠ .held k) → e.state = .held h →
    (∀ closing, h.timer.expired = some closing →
      let outcomes := e.outcomes.map fun o => if o = .unknown then .answered .expired 0 else o
      exec (.holdExpiry n) s = .next (((s.withQueue n older
        { e with outcomes := outcomes, position := e.transfer.length
                 state := if outcomes.all (·.coded) then .done else .inProgress } younger).raise
          s.windows[h.target.window].cls
          ⟨.holdExpired, some h.target.window, some h.target.record, some n, none, closing⟩).passClosing n ⟨closing, true⟩))
    ∧ (h.timer.expired = none → exec (.holdExpiry n) s = .next s)

/-- The DONE entry at the head of a queue returns its response and leaves: the initiator, the worst code among its words
in the order of R13, and for a READ the data words, zero for every word not answered OK. An entry that is not DONE stays
(R13, R15, R16). Outcomes other than OK carry zero by the invariant of the queues. The latch of the response last returned
is the model's (log 18). -/
def Obligations.ResponsesLeaveInOrder : Prop :=
  (∀ (s : State) (n : Initiator) (e : Entry) (rest : List Entry), s.taking → s.queuesSound → s.queues[n] = e :: rest →
    (e.state = .done → ∃ code : Code, (∀ c d, .answered c d ∈ e.outcomes → c.badness ≤ code.badness)
        ∧ (code = .ok ∨ ∃ d, .answered code d ∈ e.outcomes)
        ∧ exec (.responseReturn n) s = .next { s with
            queues := s.queues.set n rest
            lastResponse := some ⟨n, code, match e.transfer with
              | .read _ => some (e.outcomes.map fun o => match o with | .answered c d => if c = .ok then d else 0 | .unknown => 0 | .pending => 0)
              | .write _ => none⟩ })
    ∧ (e.state ≠ .done → exec (.responseReturn n) s = .next s))
  ∧ (∀ (c : Code) (d : Word), answeredWith c d = .answered c (if c = .ok then d else 0))
  ∧ [Code.ok, .refused, .expired, .memError, .badCheck, .aborted].map Code.badness = [0, 1, 2, 3, 4, 5]

/-! ### Routing a word -/

/-- The window of an address is the one window, not OFF, whose range holds it; word i of a request lies 8 i bytes above
its address; the address of record r at word offset o is taken back to r and o (R20, R21). -/
def Obligations.AddressesAreMatched : Prop :=
  (∀ (s : State) (a : Addr), s.windowsApart →
    (∀ w : WindowId, s.windows[w].state ≠ .off → s.windows[w].base.toNat ≤ a.toNat →
      a.toNat < s.windows[w].base.toNat + 8 * s.windows[w].recordWords * s.windows[w].recordCount → s.matchWindow a = some w)
    ∧ ((∀ w : WindowId, s.windows[w].state ≠ .off → ¬ (s.windows[w].base.toNat ≤ a.toNat
        ∧ a.toNat < s.windows[w].base.toNat + 8 * s.windows[w].recordWords * s.windows[w].recordCount)) →
      s.matchWindow a = none))
  ∧ (∀ (e : Entry) (i : Nat), e.wordAddress i = e.address + BitVec.ofNat 40 (8 * i))
  ∧ ∀ (x : Window) (r o : Nat), r < x.recordCount → o < x.recordWords →
      x.base.toNat + 8 * x.recordWords * x.recordCount ≤ 2 ^ 40 →
      let a : Addr := BitVec.ofNat 40 (x.base.toNat + r * (8 * x.recordWords) + 8 * o)
      x.contains a = true ∧ x.recordOf a = r ∧ x.offsetOf a = o
        ∧ (x.leadAddress r).toNat = x.base.toNat + r * (8 * x.recordWords)

/-- A word that a check of its window refuses has no effect but its outcome REFUSED, and REFUSED is raised when enabled
(R32, R33, R34). The last word of a request that a tick close has set going lets the next entry start as part of that
close (R166; log 7). -/
def Obligations.RefusedWordHasNoEffect : Prop :=
  ∀ (s : State) (n : Initiator) (older younger : List Entry) (e : Entry) (w : WindowId),
    s.routesNext n older e younger → e.run = none → s.matchWindow (e.wordAddress e.position) = some w →
    let x := s.windows[w]
    let r := x.recordOf (e.wordAddress e.position)
    (match e.transfer with
      | .read _ => x.readerSet.getLsbD n.val = false
      | .write ws => ∃ word, ws[e.position]? = some word
          ∧ (x.writerSet.getLsbD n.val = false ∨ word.lanes ≠ 0xFF
            ∨ (x.stamps = true ∧ x.offsetOf (e.wordAddress e.position) = x.recordWords - 1 ∧ 0 < x.recordWords)
            ∨ x.state = .closed ∨ (x.kind = .stream ∧ r ≠ x.cursor))) →
    let m := e.moment s.now
    let outcomes := e.outcomes.set e.position (.answered .refused 0)
    let t := s.withQueue n older { e with
      outcomes := outcomes, position := e.position + 1
      state := if outcomes.all (·.coded) then .done else .inProgress } younger
    let t := if x.enables.refused then t.raise x.cls ⟨.refused, some w, some r, some n, none, m.tick⟩ else t
    exec (.routeWord n) s = .next (if e.position + 1 = e.transfer.length then t.passClosing n m else t)

/-- A pass-through word, and a direct window read, joins the run being formed and is pending; with the last word of the
request the run is handed over: a pass-through run as one burst of the request's kind with each word's data and lanes as
given, a direct-read run as one operation naming each record it touches once (R5, R6, R22, R81). The next entry's start is
then part of the close that set this entry going, if one did (R166; log 7).

A run ends at the first word that does not go on with it, and is handed over before that word acts (R5, R6; log 10): the
word is then routed as with no run. -/
def Obligations.WordsJoinTheirRunUntilItEnds : Prop :=
  (∀ (s : State) (n : Initiator) (older younger : List Entry) (e : Entry) (window : Option WindowId) (target : Option RecordId),
     s.routesNext n older e younger →
     (match s.matchWindow (e.wordAddress e.position) with
       | none => window = none ∧ target = none
       | some w => ∃ r, r.window = w ∧ s.directRead n e r ∧ window = some w ∧ target = some r) →
     (∀ r ∈ e.run, r.window = window) →
     let old := e.run.getD ⟨window, e.position, 0, []⟩
     let run : Run := { old with
       count := old.count + 1, records := old.records ++ target.toList.filter (fun t => !old.records.contains t) }
     let pended : Entry := { e with outcomes := e.outcomes.set e.position .pending, position := e.position + 1 }
     let refs := (List.range run.count).map fun i => (⟨n, e.tag, run.first + i⟩ : WordRef)
     let start := e.wordAddress run.first
     exec (.routeWord n) s = .next (
       if e.position + 1 < e.transfer.length then s.withQueue n older { pended with run := some run } younger
       else
         let t := s.withQueue n older { pended with run := none } younger
         State.passClosing (match window with
         | none => { t with port := { s.port with direct := s.port.direct.set n (s.port.direct[n] ++ [.passThrough
             (match e.transfer with
               | .read _ => .read start run.count
               | .write ws => .write start ((ws.drop run.first).take run.count)) refs]) } }
         | some _ => t.arrive (.direct n refs start) run.records) n (e.moment s.now)))
  ∧ (∀ (s : State) (n : Initiator) (older younger : List Entry) (e : Entry) (r : Run), s.routesNext n older e younger →
     e.run = some r →
     (match r.window with
       | none => s.matchWindow (e.wordAddress e.position) ≠ none
       | some w => ∀ target, target.window = w → ¬ s.directRead n e target) →
     let t := s.withQueue n older { e with run := none } younger
     let refs := (List.range r.count).map fun i => (⟨n, e.tag, r.first + i⟩ : WordRef)
     let start := e.wordAddress r.first
     exec (.routeWord n) s = exec (.routeWord n) (match r.window with
       | none => { t with port := { s.port with direct := s.port.direct.set n (s.port.direct[n] ++ [.passThrough
           (match e.transfer with
             | .read _ => .read start r.count
             | .write ws => .write start ((ws.drop r.first).take r.count)) refs]) } }
       | some _ => t.arrive (.direct n refs start) r.records))

/-- A write whose record has no slot opens the lowest-numbered FREE slot in an ACTIVE window; a write to its own FILLING
slot is stored there, the latest value standing. A word that leaves the record incomplete is answered OK at once; a word
that completes it is pending, the slot becomes COMMITTING without a sequence, and its commit arrives at the interlock (R45
to R49). An entry that a tick close has set going reads the closing tick (R166; log 7). -/
def Obligations.WritesAreGathered : Prop :=
  ∀ (s : State) (n : Initiator) (older younger : List Entry) (e : Entry) (r : RecordId) (o : Nat) (d : Word)
    (slot : Fin 16) (g : Gather) (timer : Timer),
    s.routesNext n older e younger → e.run = none → s.writeAdmitted n e r o d →
    let m := e.moment s.now
    let routed (t : State) : State := if e.position + 1 = e.transfer.length then t.passClosing n m else t
    ((s.stagingIs r slot ∧ s.staging[slot] = .filling g timer ∧ g.owner = n)
      ∨ (s.noStaging r ∧ s.windows[r.window].state = .active ∧ s.staging[slot] = .free
          ∧ (∀ i : Fin 16, i < slot → s.staging[i] ≠ .free)
          ∧ g = ⟨r, n, Vector.replicate 32 none, m.tick⟩ ∧ timer = ⟨(s.timeBase.counter - m.tick).toNat, none⟩)) →
    let stored : Gather := { g with words := g.words.setIfInBounds o (some d) }
    let x := s.windows[r.window]
    let dataWords := if x.stamps then x.recordWords - 1 else x.recordWords
    let outcomes := e.outcomes.set e.position (.answered .ok 0)
    let settled : Entry := { e with
      outcomes := outcomes, position := e.position + 1, state := if outcomes.all (·.coded) then .done else .inProgress }
    let pended : Entry := { e with outcomes := e.outcomes.set e.position .pending, position := e.position + 1 }
    ((∃ (i : Nat) (h : i < 32), i < dataWords ∧ stored.words[i] = none) → exec (.routeWord n) s = .next (routed
      { s.withQueue n older settled younger with staging := s.staging.set slot (.filling stored timer) }))
    ∧ ((∀ (i : Nat) (h : i < 32), i < dataWords → stored.words[i] ≠ none) → exec (.routeWord n) s = .next (routed (State.arrive
      { s.withQueue n older pended younger with
        staging := s.staging.set slot (.committing stored ⟨⟨n, e.tag, e.position⟩, false, none⟩) } (.commit slot) [r])))

/-- A word holds, and changes nothing but its entry, which records the reason, the word's record and the present tick (or
the closing tick of the close that set the entry going, R166; log 7): a write for RECORD_BUSY when its record's slot is
not FILLING under its own initiator, for DRAINING and for NO_STAGING when there is no slot to open; a lead-word read that
would latch for DRAINING, and for NO_SNAPSHOT when no slot is FREE and its latch would release none (R9, R51, R52, R53,
R95). That the hold records the word's record is log 17. -/
def Obligations.WordsHoldForTheirReason : Prop :=
  ∀ (s : State) (n : Initiator) (older younger : List Entry) (e : Entry) (r : RecordId) (reason : HoldReason),
    s.routesNext n older e younger → e.run = none →
    let x := s.windows[r.window]
    ((∃ o d, s.writeAdmitted n e r o d
        ∧ ((reason = .recordBusy ∧ ∃ slot, s.stagingIs r slot ∧ ∀ g t, s.staging[slot] = .filling g t → g.owner ≠ n)
          ∨ (s.noStaging r ∧ ((reason = .draining ∧ x.state = .draining)
              ∨ (reason = .noStaging ∧ x.state = .active ∧ ∀ i : Fin 16, s.staging[i] ≠ .free)))))
      ∨ (s.matchWindow (e.wordAddress e.position) = some r.window ∧ r.record = x.recordOf (e.wordAddress e.position)
          ∧ x.offsetOf (e.wordAddress e.position) = 0 ∧ (∃ k, e.transfer = .read k) ∧ x.readerSet.getLsbD n.val = true
          ∧ x.snapshots = true ∧ s.noSnapshot n (fun y => y == r)
          ∧ ((reason = .draining ∧ x.state = .draining)
            ∨ (reason = .noSnapshot ∧ x.state ≠ .draining ∧ (∀ i : Fin 24, s.snapshots[i] ≠ .free)
                ∧ s.noSnapshot n (fun y => y.window == r.window) ∧ s.slotCount n < 4)))) →
    let m := e.moment s.now
    exec (.routeWord n) s = .next (s.withQueue n older
      { e with state := .held ⟨reason, r, m.tick, ⟨(s.timeBase.counter - m.tick).toNat, none⟩, .none⟩ } younger)

/-- A read of a record whose snapshot its reader holds is answered OK from the slot, which renews its last use and is
freed once every word of the record has been read; a read of a record being loaded joins the slot's waiting words (R91,
R92, R106). The count that orders equal last-use times is the model's (log 16); an entry that a tick close has set going
reads the closing tick (R166; log 7). -/
def Obligations.ReadsAreServedFromTheReadersSnapshot : Prop :=
  ∀ (s : State) (n : Initiator) (older younger : List Entry) (e : Entry) (r : RecordId) (o : Nat) (slot : Fin 24),
    s.routesNext n older e younger → e.run = none → s.snapshotRead n e r o → s.snapshotIs n r slot →
    let m := e.moment s.now
    let routed (t : State) : State := if e.position + 1 = e.transfer.length then t.passClosing n m else t
    (∀ i words readSet, s.snapshots[slot] = .held i words readSet →
      let outcomes := e.outcomes.set e.position (.answered .ok (words[o]?.getD 0))
      let settled : Entry := { e with
        outcomes := outcomes, position := e.position + 1, state := if outcomes.all (·.coded) then .done else .inProgress }
      let served : State := { s.withQueue n older settled younger with
        snapshots := s.snapshots.set slot (.held
          { i with lastUse := m.tick, timer := ⟨(s.timeBase.counter - m.tick).toNat, none⟩, useOrder := s.snapshotUses } words (readSet.setIfInBounds o true))
        snapshotUses := s.snapshotUses + 1 }
      ((∀ (k : Nat) (h : k < 32), k < words.length → (readSet.setIfInBounds o true)[k] = true) →
          exec (.routeWord n) s = .next (routed (served.freeSnapshot slot m)))
      ∧ ((∃ (k : Nat) (h : k < 32), k < words.length ∧ (readSet.setIfInBounds o true)[k] = false) →
          exec (.routeWord n) s = .next (routed served)))
    ∧ ∀ i retry reload waiting, s.snapshots[slot] = .loading i retry reload waiting →
      exec (.routeWord n) s = .next (routed { s.withQueue n older
          { e with outcomes := e.outcomes.set e.position .pending, position := e.position + 1 } younger with
        snapshots := s.snapshots.set slot (.loading i retry reload (waiting ++ [⟨⟨n, e.tag, e.position⟩, o⟩])) })

/-- A lead-word read with no slot for its record latches: the reader's slot in the window is released first, or, when it
holds four elsewhere, the one whose last use is the longest ago, and of equal ones the one set first; then the
lowest-numbered FREE slot becomes LOADING with the word waiting, and its LOAD arrives at the interlock (R88, R93; log 16).

Releasing a HELD slot frees it. Releasing a LOADING one first lets its waiting words arrive at the interlock as direct
window reads of the record, one for each queue entry, and then frees it (R94; log 11). A LOAD whose slot is freed is
withdrawn while it waits, and a scan follows (R74); once taken it keeps its reservation without a slot (R105). -/
def Obligations.LeadWordReadLatches : Prop :=
  (∀ (s t : State) (n : Initiator) (older younger : List Entry) (e : Entry) (r : RecordId) (slot : Fin 24),
    s.routesNext n older e younger → e.run = none → s.snapshotRead n e r 0 →
    s.noSnapshot n (fun y => y == r) →
    s.windows[r.window].state ≠ .draining →
    let m := e.moment s.now
    let pended := s.withQueue n older
      { e with outcomes := e.outcomes.set e.position .pending, position := e.position + 1 } younger
    let holds (j : Fin 24) (x : SnapshotInfo) : Prop := s.snapshots[j].info = some x ∧ x.reader = n
    let elsewhere : Prop := ∀ j x, holds j x → x.target.window ≠ r.window
    ((elsewhere ∧ s.slotCount n < 4 ∧ t = pended)
      ∨ (∃ old x, holds old x ∧ x.target.window = r.window ∧ (∀ j y, j < old → holds j y → y.target.window ≠ r.window)
          ∧ t = pended.releaseByLatch old m ∧ t.slotCount n < 4)
      ∨ (∃ old x, elsewhere ∧ 4 ≤ s.slotCount n ∧ holds old x
          ∧ (∀ j y, holds j y → j ≠ old → y.timer.elapsed < x.timer.elapsed
              ∨ (y.timer.elapsed = x.timer.elapsed ∧ x.useOrder < y.useOrder))
          ∧ t = pended.releaseByLatch old m)) →
    t.snapshots[slot] = .free → (∀ i : Fin 24, i < slot → t.snapshots[i] ≠ .free) →
    let latched := State.arrive { t with
      snapshots := t.snapshots.set slot
        (.loading ⟨n, r, m.tick, ⟨(s.timeBase.counter - m.tick).toNat, none⟩, t.snapshotUses⟩ false false
          [⟨⟨n, e.tag, e.position⟩, 0⟩])
      snapshotUses := t.snapshotUses + 1 } (.load slot) [r]
    exec (.routeWord n) s = .next (if e.position + 1 = e.transfer.length then latched.passClosing n m else latched))
  ∧ (∀ (s : State) (slot : Fin 24) (m : Moment) (i : SnapshotInfo),
    (∀ words readSet, s.snapshots[slot] = .held i words readSet → s.releaseByLatch slot m = s.freeSnapshot slot m)
    ∧ ∀ retry reload waiting, s.snapshots[slot] = .loading i retry reload waiting →
      let entries : List (Fin 4) := (waiting.map fun w => w.word.tag).eraseDups
      let arrived : State := entries.foldl (fun t tag =>
        let group := waiting.filter fun w => w.word.tag == tag
        t.arrive (.direct i.reader (group.map fun w => w.word) ((t.windows[i.target.window].leadAddress i.target.record)
          + BitVec.ofNat 40 (8 * ((group.head?.map fun w => w.offset).getD 0)))) [i.target]) s
      s.releaseByLatch slot m = arrived.freeSnapshot slot m)
  ∧ ∀ (s : State) (slot : Fin 24),
    ((∃ x ∈ s.interlock.waitList, x.owner = .load slot) → s.giveUpLoad slot = State.scan { s with interlock := { s.interlock with
        waitList := s.interlock.waitList.filter fun x => x.owner != .load slot } })
    ∧ ((∀ x ∈ s.interlock.waitList, x.owner ≠ .load slot) → s.giveUpLoad slot = { s with interlock := { s.interlock with
        table := s.interlock.table.map fun x => if x.owner = .load (some slot) then { x with owner := .load none } else x } })

/-- A restart routes the held word afresh, as ROUTE_WORD would were its entry IN_PROGRESS, when the word does not hold
again; a word that holds again keeps its hold start and timer and takes the new reason; without a restart owed nothing
happens (R10; log 2). A restart that a tick close's expiry caused is part of that close: the word, and the words after it,
read the closing tick, and any other reads the present tick (R166; log 7). -/
def Obligations.RestartsRouteTheHeldWordAfresh : Prop :=
  ∀ (s : State) (n : Initiator) (older younger : List Entry) (e : Entry) (h : Hold), s.taking →
    s.queueIs n older e younger → (∀ x ∈ older, (∀ k, x.state ≠ .held k) ∧ x.routing = false) → e.state = .held h →
    e.position < e.transfer.length → e.run = none →
    (∀ closing : Option Tick, ((h.restart = .owed ∧ closing = none) ∨ ∃ t, h.restart = .owedAtClose t ∧ closing = some t) →
      ((∀ reason r, s.routePath n e ≠ .hold reason r) → ∃ t, exec (.restart n) s = .next t
        ∧ exec (.routeWord n) (s.withQueue n older { e with state := .inProgress, closing := closing } younger) = .next t)
      ∧ ∀ reason r, s.routePath n e = .hold reason r → exec (.restart n) s = .next (s.withQueue n older
          { e with state := .held { h with reason := reason, target := r, restart := .none }, closing := closing } younger))
    ∧ (h.restart = .none → exec (.restart n) s = .next s)

/-! ### Slots becoming FREE, drain and events -/

/-- A class takes an event: it becomes the first-event record when the count is 0, the count rises by one up to 255, and
the kind joins the kinds-seen set; nothing else of the part changes (R143). An event raised is handed over to its class,
which takes it later (log 8). Kind k has the code of R141. -/
def Obligations.ClassesTakeEvents : Prop :=
  (∀ (s : State) (c : ClassId) (e : Event),
    let x := s.notice.classes[c]
    s.countEvent c e = { s with notice := { s.notice with classes := s.notice.classes.set c { x with
      first := if x.pending = 0 then some e else x.first
      pending := if x.pending < 255 then x.pending + 1 else x.pending
      kinds := x.kinds ||| 1#11 <<< (e.kind.code - 1) } } }
    ∧ s.raise c e = { s with transit := s.transit ++ [.event c e] })
  ∧ [EventKind.committed, .wrapped, .closed, .abandoned, .commitFailed, .loadFailed, .checkFailed, .holdExpired,
      .snapshotExpired, .refused, .drained].map EventKind.code = [1, 2, 3, 4, 5, 6, 7, 8, 9, 10, 11]

/-- A staging slot that becomes FREE owes a restart to every word held for NO_STAGING and to those held for RECORD_BUSY on
its record, a snapshot slot to those held for NO_SNAPSHOT; then the window table is handed a drain check: the slot's
window, if it is DRAINING and owns no slot, becomes OFF, raises DRAINED and owes a restart to its held words (R10, R29,
R55, R89). The restart marks and the hand-over of the drain check are log 7 and log 8, its closing tick log 24. -/
def Obligations.FreedSlotsRestartAndDrain : Prop :=
  (∀ (s : State) (slot : Fin 16) (r : RecordId) (m : Moment), s.staging[slot].target = some r →
    let closing : Option Tick := if m.ofClose then some m.tick else none
    let t := State.markRestarts { s with staging := s.staging.set slot .free }
      (fun h => h.reason == .noStaging || (h.reason == .recordBusy && h.target == r)) m
    s.freeStaging slot m = { t with transit := t.transit ++ [.slotFreed r.window closing] })
  ∧ (∀ (s : State) (slot : Fin 24) (i : SnapshotInfo) (m : Moment), s.snapshots[slot].info = some i →
    let closing : Option Tick := if m.ofClose then some m.tick else none
    let t := (State.giveUpLoad { s with snapshots := s.snapshots.set slot .free } slot).markRestarts
      (fun h => h.reason == .noSnapshot) m
    s.freeSnapshot slot m = { t with transit := t.transit ++ [.slotFreed i.target.window closing] })
  ∧ (∀ (g : Gather) (timer : Timer) (c : CommitInfo) (i : SnapshotInfo) (retry reload : Bool) (waiting : List WaitingWord)
      (words : List Word) (readSet : Vector Bool 32),
    (StagingSlot.filling g timer).target = some g.target ∧ (StagingSlot.committing g c).target = some g.target
    ∧ StagingSlot.free.target = none ∧ (SnapshotSlot.loading i retry reload waiting).info = some i
    ∧ (SnapshotSlot.held i words readSet).info = some i ∧ SnapshotSlot.free.info = none)
  ∧ (∀ (s : State) (w : WindowId) (m : Moment),
    let owned : Prop := (∃ i : Fin 16, ∃ r ∈ s.staging[i].target, r.window = w)
      ∨ ∃ i : Fin 24, ∃ j ∈ s.snapshots[i].info, j.target.window = w
    (s.windows[w].state = .draining → ¬ owned → s.drainCheck w m =
      (State.raise { s with windows := s.windows.set w { s.windows[w] with state := .off } } s.windows[w].cls
        ⟨.drained, some w, none, none, none, m.tick⟩).markRestarts (fun h => h.target.window == w) m)
    ∧ (s.windows[w].state ≠ .draining ∨ owned → s.drainCheck w m = s))
  ∧ ∀ (s : State) (p : Hold → Bool) (m : Moment), ∃ t, s.markRestarts p m = t ∧ t = { s with queues := t.queues }
      ∧ ∀ n : Initiator, t.queues[n] = s.queues[n].map fun e => match e.state with
          | .held h => if p h && h.restart == .none then
              { e with state := .held { h with restart := if m.ofClose then .owedAtClose m.tick else .owed } } else e
          | .waiting => e
          | .inProgress => e
          | .done => e

/-- An expired gather timer abandons its FILLING slot with ABANDONED; an expired snapshot timer frees its HELD slot, with
SNAPSHOT_EXPIRED when enabled, carrying the stamp's sequence in a stamped window. Both read the tick that closed, and
neither acts before a tick close has expired its timer (R58, R107, R169; log 6). -/
def Obligations.SlotTimeoutsFreeTheirSlot : Prop :=
  (∀ (s : State) (slot : Fin 16) (g : Gather) (timer : Timer), s.taking → s.staging[slot] = .filling g timer →
    (∀ closing, timer.expired = some closing →
      exec (.gatherTimeout slot) s = .next ((s.raise s.windows[g.target.window].cls
        ⟨.abandoned, some g.target.window, some g.target.record, some g.owner, none, closing⟩).freeStaging slot ⟨closing, true⟩))
    ∧ (timer.expired = none → exec (.gatherTimeout slot) s = .next s))
  ∧ ∀ (s : State) (slot : Fin 24) (i : SnapshotInfo) (words : List Word) (readSet : Vector Bool 32), s.taking →
    s.snapshots[slot] = .held i words readSet →
    let x := s.windows[i.target.window]
    (∀ closing, i.timer.expired = some closing →
      exec (.snapshotTimeout slot) s = .next (
        (if x.enables.snapshotExpired then s.raise x.cls ⟨.snapshotExpired, some i.target.window, some i.target.record,
            some i.reader, if x.stamps then some ((words.getLastD 0).extractLsb' 32 32) else none, closing⟩
          else s).freeSnapshot slot ⟨closing, true⟩))
    ∧ (i.timer.expired = none → exec (.snapshotTimeout slot) s = .next s)

/-! ### Time -/

/-- A tick close advances the counter by one modulo 2^32 and starts the divider again, and every running timer counts one
more and expires when its elapsed count, held at 65535, has reached its timeout in the closing tick; nothing else changes,
but for the age of a LOADING slot, which has no timer and which the model counts for R88 (log 16). TICK_CLOSE is carried
out at any position of the divider (log 5). A CLK period, which is what a step on an empty queue is in this model (log 4),
advances the divider and closes the tick when the position reaches the declared clock (R166, R167, R169). -/
def Obligations.TicksCloseAndTimersExpire : Prop :=
  ∀ s : State, s.taking →
    let closed (t : Timer) (timeout : Nat) : Timer :=
      ⟨t.elapsed + 1, match t.expired with
        | some c => some c
        | none => if 0 < timeout ∧ timeout ≤ min t.elapsed 65535 then some s.timeBase.counter else none⟩
    (∃ t, exec .tickClose s = .next t
      ∧ t = { s with queues := t.queues, staging := t.staging, snapshots := t.snapshots
                     timeBase := { s.timeBase with counter := s.timeBase.counter + 1, position := 0 } }
      ∧ (∀ n : Initiator, t.queues[n] = s.queues[n].map fun e => match e.state with
          | .held h => { e with state := .held { h with timer := closed h.timer s.timeBase.holdTimeout } }
          | .waiting => e
          | .inProgress => e
          | .done => e)
      ∧ (∀ i : Fin 16, t.staging[i] = match s.staging[i] with
          | .filling g timer => .filling g (closed timer s.timeBase.gatherTimeout)
          | .free => .free
          | .committing g info => .committing g info)
      ∧ ∀ i : Fin 24, t.snapshots[i] = match s.snapshots[i] with
          | .held j words readSet => .held { j with timer := closed j.timer s.timeBase.snapshotTimeout } words readSet
          | .loading j retry reload waiting => .loading { j with timer := closed j.timer 0 } retry reload waiting
          | .free => .free)
    ∧ (s.pending = [] →
        (s.timeBase.declaredClock ≤ s.timeBase.position + 1 → step s = exec .tickClose s)
        ∧ (s.timeBase.position + 1 < s.timeBase.declaredClock →
            step s = .next { s with timeBase := { s.timeBase with position := s.timeBase.position + 1 } }))

/-! ### The record interlock -/

/-- An operation that arrives is taken at once when its records are in no reservation and in no waiting operation and a
table entry is free; otherwise it joins the tail of the wait list, as conflict unless only the entry was missing. Taking
gives it the youngest place of the table under a number of its own, its burst not in flight. A COMMIT takes the window's
next sequence number and fixes its burst, a full-lane write of the slot's data words at the record's lead word, followed
in a stamped window by the stamp word over them; a LOAD reads the whole record; a DIRECT's read joins its initiator's
direct list (R69, R70, R72, R75, R76, R82, R97, R115). -/
def Obligations.OperationsArriveAndAreTaken : Prop :=
  (∀ (s : State) (owner : OpOwner) (records : List RecordId),
     let blocked : Prop := ∃ r ∈ records, (∃ x ∈ s.interlock.table, r ∈ x.records) ∨ ∃ x ∈ s.interlock.waitList, r ∈ x.records
     (¬ blocked → s.interlock.table.length < 8 → s.arrive owner records = s.take owner records)
     ∧ (¬ blocked → 8 ≤ s.interlock.table.length → s.arrive owner records =
         { s with interlock := { s.interlock with waitList := s.interlock.waitList ++ [⟨owner, records, .tableFull⟩] } })
     ∧ (blocked → s.arrive owner records =
         { s with interlock := { s.interlock with waitList := s.interlock.waitList ++ [⟨owner, records, .conflict⟩] } }))
  ∧ (∀ (s : State) (records : List RecordId), s.interlock.table.length < 8 → ∃ id : Fin 8, (∀ x ∈ s.interlock.table, x.id ≠ id)
     ∧ (∀ (slot : Fin 16) (g : Gather) (info : CommitInfo), s.staging[slot] = .committing g info →
         let x := s.windows[g.target.window]
         let count := if x.stamps then x.recordWords - 1 else x.recordWords
         let data := (g.words.toList.take count).map fun w => w.getD 0
         let words := if x.stamps then data ++ [stampWord data g.target.record (x.sequence + 1) g.owner] else data
         s.take (.commit slot) records = { s with
           windows := s.windows.set g.target.window { x with sequence := x.sequence + 1 }
           staging := s.staging.set slot (.committing g { info with sequence := some (x.sequence + 1) })
           interlock := { s.interlock with table := s.interlock.table ++ [⟨id, .commit slot, records, false, false,
             .write (x.leadAddress g.target.record) (words.map fun w => ⟨w, 0xFF⟩)⟩] } })
     ∧ (∀ (slot : Fin 24) (i : SnapshotInfo), s.snapshots[slot].info = some i →
         s.take (.load slot) records = { s with
           interlock := { s.interlock with table := s.interlock.table ++ [⟨id, .load (some slot), records, false, false,
             .read (s.windows[i.target.window].leadAddress i.target.record) s.windows[i.target.window].recordWords⟩] } })
     ∧ ∀ (n : Initiator) (words : List WordRef) (a : Addr),
         s.take (.direct n words a) records = { s with
           interlock := { s.interlock with
             table := s.interlock.table ++ [⟨id, .direct words, records, false, false, .read a words.length⟩] }
           port := { s.port with direct := s.port.direct.set n (s.port.direct[n] ++ [.windowRead id]) } })

/-- A scan considers the waiting operations one by one, oldest first: it takes the operation, as an arriving one is taken,
when a table entry is free and none of its records is in a reservation, whether it stood before the scan or the scan has
just made it, or in an older operation that goes on waiting, and passes it over otherwise (R70, R71). So each operation
taken holds a reservation of its own, for its records, after those that stood, those that still wait keep their order, and
none of them could be taken when the scan ends. A release removes exactly the reservation with that number, and a scan
follows (R73; log 14). -/
def Obligations.ScansLeaveNothingTakeable : Prop :=
  (∀ s : State, ∃ took : List Bool, took.length = s.interlock.waitList.length
    ∧ let marked : List (WaitItem × Bool) := s.interlock.waitList.zip took
      let takenOf (k : Nat) : List WaitItem := ((marked.take k).filter fun x => x.2).map fun x => x.1
      let waitingOf (k : Nat) : List WaitItem := ((marked.take k).filter fun x => !x.2).map fun x => x.1
      let reached (k : Nat) : State := (takenOf k).foldl (fun t x => t.take x.owner x.records) s
      let blocked (k : Nat) (x : WaitItem) : Prop := ∃ r ∈ x.records,
        (∃ y ∈ (reached k).interlock.table, r ∈ y.records) ∨ ∃ y ∈ waitingOf k, r ∈ y.records
      (∀ (k : Nat) (x : WaitItem), marked[k]? = some (x, true) →
          (reached k).interlock.table.length < 8 ∧ ¬ blocked k x)
      ∧ (∀ (k : Nat) (x : WaitItem), marked[k]? = some (x, false) →
          8 ≤ (reached k).interlock.table.length ∨ blocked k x)
      ∧ s.scan = { reached marked.length with
          interlock := { (reached marked.length).interlock with waitList := waitingOf marked.length } }
      ∧ ∃ made : List Reservation, s.scan.interlock.table = s.interlock.table ++ made
        ∧ made.map (fun x => (x.owner, x.records)) = (takenOf marked.length).map (fun x => (match x.owner with
            | .commit slot => ReservationOwner.commit slot
            | .load slot => .load (some slot)
            | .direct _ words _ => .direct words, x.records)))
  ∧ (∀ (s : State) (older younger : List WaitItem) (x : WaitItem), s.scan.interlock.waitList = older ++ x :: younger →
      8 ≤ s.scan.interlock.table.length
        ∨ ∃ r ∈ x.records, (∃ y ∈ s.scan.interlock.table, r ∈ y.records) ∨ ∃ y ∈ older, r ∈ y.records)
  ∧ ∀ (s : State) (id : Fin 8), s.release id = State.scan { s with interlock := { s.interlock with
      table := s.interlock.table.filter fun x => x.id != id } }

/-! ### Grants -/

/-- A requester holds a burst while a direct list is not empty (DIRECT), a commit's or a load's reservation has its burst
not in flight (COMMIT, LOAD), or the notice writer has its write to issue (NOTICE) (R130, R132, R133, R134). A grant goes
to the first requester in the priority order that holds a burst, NOTICE, COMMIT, LOAD, DIRECT in FIXED mode and the
rotation order in ROTATING, whose granted requester then goes last; with no free place or no burst nothing happens. COMMIT
and LOAD issue the burst of their oldest reservation that waits, NOTICE its one write; the issued burst joins the tail of
the outstanding list (R127, R132, R133, R134, R135, R136). -/
def Obligations.GrantsFollowThePriorityOrder : Prop :=
  ∀ s : State, s.taking →
    let holds (q : Requester) : Prop := match q with
      | .direct => ∃ n : Initiator, s.port.direct[n] ≠ []
      | .commit => ∃ x ∈ s.interlock.table, (∃ slot, x.owner = .commit slot) ∧ x.inFlight = false
      | .load => ∃ x ∈ s.interlock.table, (∃ slot, x.owner = .load slot) ∧ x.inFlight = false
      | .notice => ∃ w, s.notice.writer = some w ∧ w.outstanding = false
    let order := match s.port.mode with | .fixed => [.notice, .commit, .load, .direct] | .rotating => s.port.rotation
    let rotated (q : Requester) : MemoryPort := { s.port with rotation := match s.port.mode with
      | .fixed => s.port.rotation
      | .rotating => s.port.rotation.filter (· != q) ++ [q] }
    let issuedTable (id : Fin 8) (first : Bool) : Interlock := { s.interlock with
      table := s.interlock.table.map fun x =>
        if x.id = id then { x with inFlight := true, firstIssued := first || x.firstIssued } else x }
    (8 ≤ s.port.outstanding.length ∨ (∀ q ∈ order, ¬ holds q) → exec .portGrant s = .next s)
    ∧ ∀ (higher lower : List Requester) (q : Requester), s.port.outstanding.length < 8 → order = higher ++ q :: lower →
      (∀ p ∈ higher, ¬ holds p) → holds q → s.reservationsApart →
      (∀ (elder younger : List Reservation) (x : Reservation) (slot : Fin 16), q = .commit →
        s.interlock.table = elder ++ x :: younger → x.owner = .commit slot → x.inFlight = false →
        (∀ y ∈ elder, ∀ i, y.owner = .commit i → y.inFlight = true) →
        exec .portGrant s = .next { s with
          interlock := issuedTable x.id true
          port := { rotated q with outstanding := s.port.outstanding ++ [⟨.commit, x.burst, .reservation x.id⟩] } })
      ∧ (∀ (elder younger : List Reservation) (x : Reservation) (slot : Option (Fin 24)), q = .load →
        s.interlock.table = elder ++ x :: younger → x.owner = .load slot → x.inFlight = false →
        (∀ y ∈ elder, ∀ i, y.owner = .load i → y.inFlight = true) →
        exec .portGrant s = .next { s with
          interlock := issuedTable x.id false
          port := { rotated q with outstanding := s.port.outstanding ++ [⟨.load, x.burst, .reservation x.id⟩] } })
      ∧ ∀ w, q = .notice → s.notice.writer = some w → exec .portGrant s = .next { s with
          notice := { s.notice with writer := some { w with outstanding := true } }
          port := { rotated q with outstanding := s.port.outstanding ++ [⟨.notice, w.burst, .noticeWriter⟩] } }

/-- A grant to DIRECT issues the oldest burst of the first initiator, counting round from the one after the last served,
whose direct list is not empty, and that initiator becomes the last served (R131). -/
def Obligations.DirectGrantsGoRoundRobin : Prop :=
  ∀ (s : State) (higher lower : List Requester) (n : Initiator) (item : DirectItem) (rest : List DirectItem),
    s.taking → s.port.outstanding.length < 8 →
    let holds (q : Requester) : Prop := match q with
      | .direct => ∃ n : Initiator, s.port.direct[n] ≠ []
      | .commit => ∃ x ∈ s.interlock.table, (∃ slot, x.owner = .commit slot) ∧ x.inFlight = false
      | .load => ∃ x ∈ s.interlock.table, (∃ slot, x.owner = .load slot) ∧ x.inFlight = false
      | .notice => ∃ w, s.notice.writer = some w ∧ w.outstanding = false
    (match s.port.mode with | .fixed => [.notice, .commit, .load, .direct] | .rotating => s.port.rotation)
      = higher ++ .direct :: lower →
    (∀ p ∈ higher, ¬ holds p) → s.port.direct[n] = item :: rest →
    (∀ k : Fin 16, (k - (s.port.lastServed + 1)).val < (n - (s.port.lastServed + 1)).val → s.port.direct[k] = []) →
    let rotation : List Requester := match s.port.mode with
      | .fixed => s.port.rotation
      | .rotating => s.port.rotation.filter (fun q => q != Requester.direct) ++ [.direct]
    let port : MemoryPort := { s.port with direct := s.port.direct.set n rest, lastServed := n, rotation := rotation }
    (∀ burst refs, item = .passThrough burst refs → ackValue s.notice.ring burst = none →
      exec .portGrant s = .next { s with port := { port with outstanding := s.port.outstanding ++ [⟨.direct, burst, .words refs⟩] } })
    ∧ (∀ burst refs value, item = .passThrough burst refs → ackValue s.notice.ring burst = some value →
      exec .portGrant s = .next { s with
        port := { port with outstanding := s.port.outstanding ++ [⟨.direct, burst, .words refs⟩] }
        notice := s.notice.observe value })
    ∧ ∀ id x, item = .windowRead id → s.reservationsApart → x ∈ s.interlock.table → x.id = id → (∃ refs, x.owner = .direct refs) →
      exec .portGrant s = .next { s with
        port := { port with outstanding := s.port.outstanding ++ [⟨.direct, x.burst, .reservation id⟩] }
        interlock := { s.interlock with
          table := s.interlock.table.map fun y => if y.id = id then { y with inFlight := true } else y } }

/-- The observer is handed the value of the first full-lane word that a pass-through WRITE burst carries to the ack word,
and nothing from a READ, a partial word or before a ring is set. An acknowledgement of d entries, d at most P - O, retires
the oldest d entries, clears their classes' flags and makes O the value's low 32 bits; any other sets ACK_RANGE and
changes nothing else (R138, R159, R160). -/
def Obligations.AcknowledgementsAreObserved : Prop :=
  (∀ (ring : Option Ring) (burst : Burst), ackValue ring burst = match ring, burst with
      | some r, .write a words => ((List.range words.length).find? fun i =>
          (a + BitVec.ofNat 40 (8 * i) == r.ackWord) && ((words[i]?.map (·.lanes)) == some 0xFF)).bind fun i => words[i]?.map (·.data)
      | some _, .read _ _ => none
      | none, _ => none)
  ∧ ∀ (n : NoticeUnit) (value : Word),
    let c : BitVec 32 := value.extractLsb' 0 32
    ((c - n.consumed).toNat ≤ (n.produced - n.consumed).toNat →
      let retired := n.inFlight.take (c - n.consumed).toNat
      n.observe value = { n with
        inFlight := n.inFlight.drop (c - n.consumed).toNat, consumed := c
        classes := Vector.ofFn fun k =>
          { n.classes[k] with inFlight := n.classes[k].inFlight && !(retired.any fun x => x.2 == k) } })
    ∧ ((n.produced - n.consumed).toNat < (c - n.consumed).toNat → n.observe value = { n with ackRange := true })

/-! ### Responses of the memory -/

/-- A response goes to the oldest outstanding burst and frees its place; with no burst outstanding it is ignored. A
pass-through burst's words are answered OK, with the burst's data in order for a READ, or MEM_ERROR; a direct window read
hands the interlock its release and answers its words in the same way; a response for an orphaned load only hands over its
release (log 8). A word's answer is recorded in its own entry, data only with OK, and an entry whose last outcome becomes
a code is DONE; other entries and queues stay (R5, R7, R13, R82, R105, R128). -/
def Obligations.ResponsesReachTheirOwner : Prop :=
  (∀ (s : State) (status : MemStatus) (data : Vector Word 32), s.taking →
     (s.port.outstanding = [] → exec (.memoryResponse status data) s = .next s)
     ∧ ∀ (item : Outstanding) (rest : List Outstanding), s.port.outstanding = item :: rest →
       let t : State := { s with port := { s.port with outstanding := rest } }
       let code : Code := match status with | .ok => .ok | .error => .memError
       let words : List Word := match item.burst, status with
         | .read _ k, .ok => data.toList.take k
         | .read _ _, .error => []
         | .write _ _, _ => []
       (∀ refs, item.owner = .words refs → exec (.memoryResponse status data) s = .next (t.answerEach refs code words))
       ∧ (∀ id x refs, item.owner = .reservation id → s.reservation id = some x → x.owner = .direct refs →
           exec (.memoryResponse status data) s = .next (State.answerEach { t with transit := [.release id] } refs code words))
       ∧ ∀ id x, item.owner = .reservation id → s.reservation id = some x → x.owner = .load none →
           exec (.memoryResponse status data) s = .next { t with transit := [.release id] })
  ∧ (∀ (s : State) (id : Fin 8) (x : Reservation), s.reservationsApart →
     (s.reservation id = some x ↔ x ∈ s.interlock.table ∧ x.id = id))
  ∧ (∀ (s : State) (code : Code) (d : List Word) (ref : WordRef) (refs : List WordRef), s.answerEach [] code d = s
     ∧ s.answerEach (ref :: refs) code d = (s.answer ref code (d.headD 0)).answerEach refs code d.tail)
  ∧ (∀ (s : State) (n : Initiator) (older younger : List Entry) (e : Entry) (i : Nat) (code : Code) (d : Word),
     s.queueIs n older e younger →
     let outcomes := e.outcomes.set i (.answered code (if code = .ok then d else 0))
     s.answer ⟨n, e.tag, i⟩ code d = s.withQueue n older { e with
       outcomes := outcomes
       state := if outcomes.all (·.coded) then .done else e.state } younger)

/-- The response to a commit's burst: OK hands the interlock the release (R73, log 8), completes the commit at the window,
answers the completing word OK and frees the slot; a first ERROR requests the same burst again under the same reservation;
a second ERROR hands over the release, raises COMMIT_FAILED unless the part is CLEARING, answers MEM_ERROR and frees the
slot (R65, R77, R78, R79). -/
def Obligations.CommitsEnd : Prop :=
  ∀ (s : State) (data : Vector Word 32) (item : Outstanding) (rest : List Outstanding) (id : Fin 8) (x : Reservation)
    (slot : Fin 16) (g : Gather) (info : CommitInfo) (q : BitVec 32),
    s.taking → s.port.outstanding = item :: rest → item.owner = .reservation id → s.reservation id = some x →
    x.owner = .commit slot → s.staging[slot] = .committing g info → info.sequence = some q →
    let t : State := { s with port := { s.port with outstanding := rest } }
    let released : State := { t with transit := [.release id] }
    exec (.memoryResponse .ok data) s = .next (
      ((released.completeCommit g q s.timeBase.counter).answer info.completing .ok 0).freeStaging slot s.now)
    ∧ (info.retried = false → exec (.memoryResponse .error data) s = .next { t with
        staging := s.staging.set slot (.committing g { info with retried := true })
        interlock := { s.interlock with
          table := s.interlock.table.map fun y => if y.id = id then { y with inFlight := false } else y } })
    ∧ (info.retried = true → exec (.memoryResponse .error data) s = .next (
        ((if s.partState = .running then released.raise s.windows[g.target.window].cls
            ⟨.commitFailed, some g.target.window, some g.target.record, some g.owner, some q, s.timeBase.counter⟩
          else released).answer info.completing .memError 0).freeStaging slot s.now))

/-- A commit that ends with OK advances the cursor of a STREAM window by one; at record_count the cursor returns to 0, or
the window becomes CLOSED with the cursor there when it is ACTIVE without reload. A TABLE window's cursor stays. COMMITTED
and WRAPPED, each when enabled, and CLOSED are raised in this order with the commit's writer and sequence; none for a
window that is OFF or while the part is CLEARING (R35, R36, R37, R38, R40). -/
def Obligations.CommitCompletionMovesTheCursor : Prop :=
  ∀ (s : State) (g : Gather) (q : BitVec 32) (time : Tick),
    let w := g.target.window
    let x := s.windows[w]
    let moved (y : Window) : State := { s with windows := s.windows.set w y }
    let event (kind : EventKind) (record : Nat) : Event := ⟨kind, some w, some record, some g.owner, some q, time⟩
    let raised (t : State) (on : Bool) (e : Event) : State := if on then t.raise x.cls e else t
    let quiet : Prop := x.state = .off ∨ s.partState = .clearing
    let committed (t : State) : State := raised t x.enables.committed (event .committed g.target.record)
    (x.kind = .table → s.completeCommit g q time = if quiet then s else committed s)
    ∧ (x.kind = .stream → x.state ≠ .closed → x.cursor + 1 ≠ x.recordCount →
        let t := moved { x with cursor := x.cursor + 1 }
        s.completeCommit g q time = if quiet then t else committed t)
    ∧ (x.kind = .stream → x.state ≠ .closed → x.cursor + 1 = x.recordCount → x.reload = true →
        let t := moved { x with cursor := 0 }
        s.completeCommit g q time =
          if quiet then t else raised (committed t) x.enables.wrapped (event .wrapped (x.recordCount - 1)))
    ∧ (x.kind = .stream → x.state ≠ .closed → x.cursor + 1 = x.recordCount → x.reload = false →
        let t := moved (if x.state = .active then { x with cursor := x.recordCount, state := .closed } else { x with cursor := 0 })
        s.completeCommit g q time = if quiet then t else (committed t).raise x.cls (event .closed (x.recordCount - 1)))

/-- A load ends with success when its words come with OK and, in a stamped window, verify: the interlock is handed the
release (R73, log 8), the slot is HELD with the words and an empty read set, the waiting words are served in order, and a
slot thereby read to its end is freed (R100, R103, R106, R117; log 16).

A load's first ERROR requests its burst again, spending the retry, and its first mismatch reads the record again, spending
the reload, both under the same reservation. A second ERROR ends it with LOAD_FAILED and MEM_ERROR, a second mismatch with
CHECK_FAILED, carrying the sequence as read, and BAD_CHECK; both events are raised whatever the enables, every waiting
word is answered, and the slot is freed (R98, R99, R101, R102). -/
def Obligations.LoadsEnd : Prop :=
  (∀ (s : State) (data : Vector Word 32) (item : Outstanding) (rest : List Outstanding) (id : Fin 8) (x : Reservation)
     (slot : Fin 24) (i : SnapshotInfo) (retry reload : Bool) (waiting : List WaitingWord) (a : Addr) (k : Nat),
     s.taking → s.port.outstanding = item :: rest → item.owner = .reservation id → item.burst = .read a k →
     s.reservation id = some x → x.owner = .load (some slot) → s.snapshots[slot] = .loading i retry reload waiting →
     let words := data.toList.take k
     (s.windows[i.target.window].stamps = true → stampMatches words i.target.record = true) →
     let t : State := { s with port := { s.port with outstanding := rest }, transit := [.release id] }
     let filled := { t with
       snapshots := t.snapshots.set slot
         (.held { i with lastUse := s.timeBase.counter, timer := ⟨0, none⟩, useOrder := s.snapshotUses } words (Vector.replicate 32 false))
       snapshotUses := s.snapshotUses + 1 }
     let served := waiting.foldl (fun u w => (u.answer w.word .ok (words[w.offset]?.getD 0)).markServed slot w.offset s.now) filled
     exec (.memoryResponse .ok data) s = .next (
       if served.snapshots[slot].fullyRead then served.freeSnapshot slot s.now else served))
  ∧ (∀ (s : State) (slot : Fin 24) (o : Nat) (m : Moment) (i : SnapshotInfo) (words : List Word) (readSet : Vector Bool 32),
     s.snapshots[slot] = .held i words readSet →
     (s.snapshots[slot].fullyRead = true ↔ ∀ (k : Nat) (h : k < 32), k < words.length → readSet[k] = true)
     ∧ s.markServed slot o m = { s with
         snapshots := s.snapshots.set slot (.held
           { i with lastUse := m.tick, timer := ⟨(s.timeBase.counter - m.tick).toNat, none⟩, useOrder := s.snapshotUses } words
           (readSet.setIfInBounds o true))
         snapshotUses := s.snapshotUses + 1 })
  ∧ (∀ (s : State) (data : Vector Word 32) (item : Outstanding) (rest : List Outstanding) (id : Fin 8) (x : Reservation)
     (slot : Fin 24) (i : SnapshotInfo) (retry reload : Bool) (waiting : List WaitingWord) (a : Addr) (k : Nat),
     s.taking → s.port.outstanding = item :: rest → item.owner = .reservation id → item.burst = .read a k →
     s.reservation id = some x → x.owner = .load (some slot) → s.snapshots[slot] = .loading i retry reload waiting →
     let t : State := { s with port := { s.port with outstanding := rest } }
     let w := i.target.window
     let words := data.toList.take k
     let again (y : SnapshotSlot) : State := { t with
       snapshots := s.snapshots.set slot y
       interlock := { s.interlock with
         table := s.interlock.table.map fun z => if z.id = id then { z with inFlight := false } else z } }
     let ended (kind : EventKind) (sequence : Option (BitVec 32)) (code : Code) : State :=
       (((State.raise { t with transit := [.release id] } s.windows[w].cls ⟨kind, some w, some i.target.record, some i.reader, sequence, s.timeBase.counter⟩).answerEach
         (waiting.map (·.word)) code []).freeSnapshot slot s.now)
     (retry = false → exec (.memoryResponse .error data) s = .next (again (.loading i true reload waiting)))
     ∧ (retry = true → exec (.memoryResponse .error data) s = .next (ended .loadFailed none .memError))
     ∧ (s.windows[w].stamps = true → stampMatches words i.target.record = false →
         (reload = false → exec (.memoryResponse .ok data) s = .next (again (.loading i retry true waiting)))
         ∧ (reload = true → exec (.memoryResponse .ok data) s = .next
             (ended .checkFailed (some ((words.getLastD 0).extractLsb' 32 32)) .badCheck))))

/-- A notice write answered OK joins the in-flight list, P goes up by one, its class is in flight and last delivered, and
the writer is IDLE; a first ERROR requests the same write again; a second ERROR halts the unit, which asserts FLT_N, and
gives the carried count, record and kinds back to the class, P, O and the list staying (R154, R155, R156). -/
def Obligations.NoticeWritesEnd : Prop :=
  ∀ (s : State) (data : Vector Word 32) (item : Outstanding) (rest : List Outstanding) (w : NoticeWrite),
    s.taking → s.port.outstanding = item :: rest → item.owner = .noticeWriter → s.notice.writer = some w →
    let t : State := { s with port := { s.port with outstanding := rest } }
    let c := s.notice.classes[w.cls]
    exec (.memoryResponse .ok data) s = .next { t with notice := { s.notice with
      inFlight := s.notice.inFlight ++ [(w.producer, w.cls)], produced := s.notice.produced + 1
      classes := s.notice.classes.set w.cls { c with inFlight := true }, lastDelivered := w.cls, writer := none } }
    ∧ (w.repeated = false → exec (.memoryResponse .error data) s = .next { t with notice := { s.notice with
        writer := some { w with repeated := true, outstanding := false } } })
    ∧ (w.repeated = true → exec (.memoryResponse .error data) s = .next { t with notice := { s.notice with
        state := .halted, writer := none
        classes := s.notice.classes.set w.cls { c with
          pending := min (c.pending + w.count) 255, first := if c.pending = 0 then some w.first else c.first
          kinds := c.kinds ||| w.kinds } } })

/-! ### The notice writer -/

/-- The writer starts when the part and the unit are RUNNING, it is IDLE, P - O is below the capacity and a class is
eligible (its count above 0, not masked, not in flight): the lowest such class in FIXED mode, the first counting round
from the one after the last delivered in ROTATING. It builds the class's entry for the ring position of P and clears the
class; otherwise nothing happens (R150, R151, R152, R153).

The writer tests before each hand-over that is in transit and after the last, so that it starts, and builds, as soon as
its conditions hold: with the first of two events, the later one being counted afresh (R150, R152; log 8). -/
def Obligations.NoticeWriterStartsAndBuilds : Prop :=
  (∀ s : State, s.taking →
    let eligible (c : ClassId) : Prop :=
      0 < s.notice.classes[c].pending ∧ s.notice.classes[c].masked = false ∧ s.notice.classes[c].inFlight = false
    let rank (c : ClassId) : Nat := match s.notice.mode with
      | .fixed => c.val
      | .rotating => (c - (s.notice.lastDelivered + 1)).val
    let may (r : Ring) : Prop := s.partState = .running ∧ s.notice.state = .running ∧ s.notice.writer = none
      ∧ s.notice.ring = some r ∧ (s.notice.produced - s.notice.consumed).toNat < r.capacity
    (∀ (r : Ring) (c : ClassId) (first : Event), may r → eligible c → (∀ d, eligible d → rank c ≤ rank d) →
      s.notice.classes[c].first = some first →
      exec .noticeWriteStart s = .next { s with notice := { s.notice with
        classes := s.notice.classes.set c { s.notice.classes[c] with pending := 0, first := none, kinds := 0 }
        writer := some
          { cls := c, count := s.notice.classes[c].pending, first := first, kinds := s.notice.classes[c].kinds
            producer := s.notice.produced
            burst := .write (r.base + BitVec.ofNat 40 (s.notice.produced.toNat % r.capacity * 32))
              ((noticeEntry c s.notice.classes[c].pending first s.notice.classes[c].kinds s.notice.produced).map fun d => ⟨d, 0xFF⟩)
            repeated := false, outstanding := false } } })
    ∧ ((∀ r, ¬ may r) ∨ (∀ c, ¬ eligible c) → exec .noticeWriteStart s = .next s))
  ∧ (let test (t : State) : State := if t.partState = .running then { t with notice := t.notice.start } else t
     (∀ s : State, s.taking → exec .noticeWriteStart s = .next (test s))
     ∧ ∀ s : State, s.rstN = true → s.heldBack = false →
       let pass (t : State) (l : List HandOver) : State := l.foldl (fun u h => test (u.takeHandOver h)) (test t)
       let first : State := pass { s with transit := [] } s.transit
       exec .noticeWriteStart s = .next (pass { first with transit := [] } first.transit))

/-- The four words of a notice entry have every field of the entry at its bits, an absent field with valid bit and value
zero, and zero in every other bit (R194). -/
def Obligations.NoticeEntryHasItsLayout : Prop :=
  ∀ (c : ClassId) (count : Nat) (e : Event) (kinds : BitVec 11) (p : BitVec 32), count ≤ 255 → (∀ r ∈ e.record, r < 4096) →
    ∃ w0 w1 w2 w3 : Word, noticeEntry c count e kinds p = [w0, w1, w2, w3]
      ∧ (w0.extractLsb' 0 4).toNat = c.val ∧ (w0.extractLsb' 4 4).toNat = e.kind.code ∧ (w0.extractLsb' 8 8).toNat = count
      ∧ (w0.extractLsb' 16 5).toNat = (e.window.map (·.val)).getD 0 ∧ w0.getLsbD 21 = e.window.isSome
      ∧ w0.extractLsb' 22 10 = 0 ∧ w0.extractLsb' 32 11 = kinds ∧ w0.extractLsb' 43 21 = 0
      ∧ (w1.extractLsb' 0 12).toNat = e.record.getD 0 ∧ w1.getLsbD 12 = e.record.isSome ∧ w1.extractLsb' 13 19 = 0
      ∧ (w1.extractLsb' 32 4).toNat = (e.initiator.map (·.val)).getD 0 ∧ w1.getLsbD 36 = e.initiator.isSome
      ∧ w1.extractLsb' 37 27 = 0
      ∧ w2.extractLsb' 0 32 = e.sequence.getD 0 ∧ w2.getLsbD 32 = e.sequence.isSome ∧ w2.extractLsb' 33 31 = 0
      ∧ w3.extractLsb' 0 32 = e.time ∧ w3.extractLsb' 32 32 = p

/-! ### Stamps -/

/-- The check code is 65535 less S, S being the sum modulo 65536 of the four 16-bit quarters of every data word, the low
16 bits of the record index and those of the sequence; every value is a possible check code (R114). -/
def Obligations.CheckCodeIsTheComplementOfTheSum : Prop :=
  (∀ (data : List Word) (record : Nat) (sequence : BitVec 32),
    let pieces (w : Word) : Nat :=
      w.toNat % 65536 + w.toNat / 65536 % 65536 + w.toNat / 65536 / 65536 % 65536 + w.toNat / 65536 / 65536 / 65536 % 65536
    let S := ((data.map pieces).sum + record % 65536 + sequence.toNat % 65536) % 65536
    (checkCode data record sequence).toNat = 65535 - S ∧ (S + (checkCode data record sequence).toNat) % 65536 = 65535)
  ∧ ∀ v : BitVec 16, ∃ (data : List Word) (record : Nat) (sequence : BitVec 32), record < 4096 ∧ checkCode data record sequence = v

/-- The stamp word a commit of a stamped window writes last has the sequence at bits 63..32, the check code at 31..16, the
writer at 15..12 and zero at 11..0; verification reads sequence and check from those bits and does not examine bits 15..0
(R193). -/
def Obligations.StampWordHasItsLayout : Prop :=
  (∀ (x : Window) (g : Gather) (q : BitVec 32), x.stamps = true → ∃ data stamp, commitWords x g q = data ++ [stamp]
    ∧ data = (g.words.toList.take (x.recordWords - 1)).map (fun w => w.getD 0)
    ∧ stamp.extractLsb' 32 32 = q ∧ stamp.extractLsb' 16 16 = checkCode data g.target.record q
    ∧ (stamp.extractLsb' 12 4).toNat = g.owner.val ∧ stamp.extractLsb' 0 12 = 0)
  ∧ (∀ (data : List Word) (stamp : Word) (record : Nat), stampMatches (data ++ [stamp]) record
      = (checkCode data record (stamp.extractLsb' 32 32) == stamp.extractLsb' 16 16))
  ∧ ∀ w : Word, pieceSum w = w.extractLsb' 0 16 + w.extractLsb' 16 16 + w.extractLsb' 32 16 + w.extractLsb' 48 16

/-- A record as its commit wrote it verifies, and fails to verify when read as another record, with another value in one
16-bit piece of one data word, or with another low half of the sequence (R114, R116, R117). -/
def Obligations.VerificationCatchesSingleChanges : Prop :=
  ∀ (data : List Word) (record : Nat) (q : BitVec 32) (writer : Initiator), record < 4096 →
    let stamp := stampWord data record q writer
    stampMatches (data ++ [stamp]) record = true
    ∧ (∀ other, other < 4096 → other ≠ record → stampMatches (data ++ [stamp]) other = false)
    ∧ (∀ (i : Nat) (w v : Word) (k : Fin 4), data[i]? = some w →
        (∀ j : Fin 4, w.extractLsb' (16 * j.val) 16 = v.extractLsb' (16 * j.val) 16 ↔ j ≠ k) →
        stampMatches (data.set i v ++ [stamp]) record = false)
    ∧ ∀ v : Word, (v.extractLsb' 32 16 ≠ stamp.extractLsb' 32 16) → v.extractLsb' 16 16 = stamp.extractLsb' 16 16 →
        stampMatches (data ++ [v]) record = false

/-! ### CLEAR -/

/-- CLEAR is answered ACCEPTED and makes the part CLEARING; every window is OFF, a CLOSED one with cursor 0; FILLING
slots, commits not yet issued, snapshot slots, waiting operations and direct lists are gone, and of the reservations those
with a burst in memory, or a commit whose first burst was issued, stay; the classes are empty. Coded outcomes stay, every
unknown outcome and every pending one whose operation has not been issued is ABORTED, and entries are DONE or wait for
their last pending words. Everything else is kept (R17, R43, R63, R64, R65, R84, R85, R110, R139, R164, R173, R185). That
all blocks take it in one step is log 9; hand-overs that are held back are taken after it (log 8). -/
def Obligations.ClearSettlesEveryBlock : Prop :=
  ∀ (s : State) (check : Byte), s.linkOpen [0x60, check] → ∃ t, exec (.clear check) s = .next t
    ∧ t = { s with
        partState := .clearing, queues := t.queues, windows := t.windows, staging := t.staging
        snapshots := Vector.replicate 24 .free, interlock := ⟨t.interlock.table, []⟩
        port := { s.port with direct := Vector.replicate 16 [] }
        notice := { s.notice with
          classes := Vector.ofFn fun c => { s.notice.classes[c] with pending := 0, first := none, kinds := 0 } }
        link := ⟨some (responseBytes .accepted []), false⟩ }
    ∧ (∀ w : WindowId, t.windows[w] =
        { s.windows[w] with state := .off, cursor := if s.windows[w].state = .closed then 0 else s.windows[w].cursor })
    ∧ (∀ i : Fin 16,
        let issued (g : Gather) (info : CommitInfo) : Prop := info.sequence ≠ none
          ∧ ∃ x ∈ s.interlock.table, x.owner = .commit i ∧ x.records = [g.target] ∧ x.firstIssued = true
        ((∃ g info, s.staging[i] = .committing g info ∧ issued g info) → t.staging[i] = s.staging[i])
        ∧ ((∀ g info, s.staging[i] = .committing g info → ¬ issued g info) → t.staging[i] = .free))
    ∧ t.interlock.table = (s.interlock.table.filter fun x => match x.owner with
          | .commit _ => x.firstIssued
          | .load _ => x.inFlight
          | .direct _ => x.inFlight).map (fun x => { x with owner := match x.owner with
          | .load _ => .load none
          | .commit i => .commit i
          | .direct refs => .direct refs })
    ∧ ∀ n : Initiator, t.queues[n].length = s.queues[n].length
      ∧ ∀ (k : Nat) (e : Entry), s.queues[n][k]? = some e →
        (e.state = .done → t.queues[n][k]? = some e)
        ∧ (e.state ≠ .done → ∃ outcomes, t.queues[n][k]? = some { e with
              outcomes := outcomes, position := e.transfer.length, run := none
              state := if outcomes.all (·.coded) then .done else .inProgress }
            ∧ outcomes.length = e.outcomes.length
            ∧ ∀ (i : Nat) (o : WordOutcome), e.outcomes[i]? = some o →
              let ref : WordRef := ⟨n, e.tag, i⟩
              let issued : Prop := (∃ x ∈ s.port.outstanding, ∃ refs, x.owner = .words refs ∧ ref ∈ refs)
                ∨ (∃ x ∈ s.port.outstanding, ∃ id y refs, x.owner = .reservation id ∧ s.reservation id = some y
                    ∧ y.owner = .direct refs ∧ ref ∈ refs)
                ∨ ∃ (j : Fin 16) (g : Gather) (info : CommitInfo), s.staging[j] = .committing g info ∧ info.completing = ref
                    ∧ info.sequence ≠ none
                    ∧ ∃ x ∈ s.interlock.table, x.owner = .commit j ∧ x.records = [g.target] ∧ x.firstIssued = true
              ((∃ c d, o = .answered c d) → outcomes[i]? = some o)
              ∧ (o = .unknown → outcomes[i]? = some (.answered .aborted 0))
              ∧ (o = .pending → issued → outcomes[i]? = some .pending)
              ∧ (o = .pending → ¬ issued → outcomes[i]? = some (.answered .aborted 0)))

/-- CLEARING ends, and nothing else changes, exactly when the outstanding list is empty, no requester holds a burst, every
queue is empty and the notice writer is IDLE (R139, R186). -/
def Obligations.ClearingEndsWhenQuiet : Prop :=
  ∀ s : State, s.taking →
    let quiet : Prop := s.port.outstanding = [] ∧ (∀ n : Initiator, s.port.direct[n] = [])
      ∧ (∀ x ∈ s.interlock.table, (∃ refs, x.owner = .direct refs) ∨ x.inFlight = true) ∧ (∀ n : Initiator, s.queues[n] = [])
      ∧ s.notice.writer = none
    (s.partState = .clearing → quiet → exec .clearingEnd s = .next { s with partState := .running })
    ∧ (s.partState = .running ∨ ¬ quiet → exec .clearingEnd s = .next s)

/-! ### What every step keeps -/

/-- Every step keeps the queues at four entries (R1) with tags of their own (log 14), and zero the data of every word
answered other than OK (R16). -/
def Obligations.StepsKeepQueuesSound : Prop := ∀ s t : State, s.queuesSound → step s = .next t → t.queuesSound

/-- Every step keeps the outstanding list at eight bursts (R127), and keeps at most eight reservations, no two naming one
record (R68), under numbers of their own (log 14). -/
def Obligations.StepsKeepPortAndTableBounded : Prop :=
  (∀ s t : State, s.outstandingBounded → step s = .next t → t.outstandingBounded)
  ∧ (∀ s t : State, s.reservationsApart → step s = .next t → t.reservationsApart)

/-- Every step keeps every class's count, first-event record and kinds-seen set lawful (R142). -/
def Obligations.StepsKeepClassesLawful : Prop :=
  ∀ s t : State, s.classesLawful → step s = .next t → t.classesLawful

/-- Every step keeps the in-flight list the P - O entries from O on, within the ring, with the flags of its classes (R154,
R159). -/
def Obligations.StepsKeepTheRingLawful : Prop :=
  ∀ s t : State, s.notice.ringLawful → step s = .next t → t.notice.ringLawful

/-- Every step keeps at most one staging slot for a record (R47), and keeps a reader at four snapshot slots, one in a
window (R88). -/
def Obligations.StepsKeepSlotsUnique : Prop :=
  (∀ s t : State, s.stagingUnique → step s = .next t → t.stagingUnique)
  ∧ (∀ s t : State, s.snapshotLimits → step s = .next t → t.snapshotLimits)

/-- Every step keeps every window's cursor and state lawful (R35, R36), and keeps the windows that are not OFF apart from
each other, the ring and the ack word (R26, R146). -/
def Obligations.StepsKeepWindowTableLawful : Prop :=
  (∀ s t : State, s.cursorsLawful → step s = .next t → t.cursorsLawful)
  ∧ (∀ s t : State, s.windowsApart → step s = .next t → t.windowsApart)

/-- Every step keeps FILLING and snapshot slots in windows that are not OFF (R29, R44, R87). -/
def Obligations.StepsKeepSlotsOwned : Prop :=
  ∀ s t : State, s.slotsOwned → step s = .next t → t.slotsOwned

/-- Every step keeps a CLEARING part quiet (R18, R43, R173). -/
def Obligations.StepsKeepClearingQuiet : Prop :=
  ∀ s t : State, s.clearingQuiet → step s = .next t → t.clearingQuiet
end

