-- ==== Sys2Proof/Laws/Bytes.lean ====
section
/-! SUPPORT. Bytes and the fields they spell (R188), and the sums of check bytes (R177). -/

namespace Sys2Proof

/-- A 16-bit field comes back from its two bytes (R188). -/
@[simp] theorem word2_bytes2 (v : BitVec 16) : word2 (v.extractLsb' 8 8) (v.extractLsb' 0 8) = v := by
  refine BitVec.eq_of_getLsbD_eq fun i hi => ?_
  simp only [word2, BitVec.getLsbD_append, BitVec.getLsbD_extractLsb']
  split
  · simp_all
  · rw [show 8 + (i - 8) = i by omega]; simp; omega

/-- A 40-bit address comes back from its five bytes (R188). -/
@[simp] theorem word5_bytes5 (v : Addr) :
    word5 (v.extractLsb' 32 8) (v.extractLsb' 24 8) (v.extractLsb' 16 8) (v.extractLsb' 8 8) (v.extractLsb' 0 8) = v := by
  refine BitVec.eq_of_getLsbD_eq fun i hi => ?_
  simp only [word5, BitVec.getLsbD_append, BitVec.getLsbD_extractLsb']
  split
  · simp_all
  split
  · rw [show 8 + (i - 8) = i by omega]; simp; omega
  split
  · rw [show 16 + (i - 8 - 8) = i by omega]; simp; omega
  split
  · rw [show 24 + (i - 8 - 8 - 8) = i by omega]; simp; omega
  · rw [show 32 + (i - 8 - 8 - 8 - 8) = i by omega]; simp; omega

@[simp] theorem length_bytes2 (v : BitVec 16) : (bytes2 v).length = 2 := rfl
@[simp] theorem length_bytes4 (v : BitVec 32) : (bytes4 v).length = 4 := rfl
@[simp] theorem length_bytes5 (v : Addr) : (bytes5 v).length = 5 := rfl

namespace Machine

/-- The sum of a byte and more bytes (R177). -/
@[simp] theorem byteSum_cons (b : Byte) (l : List Byte) : byteSum (b :: l) = b + byteSum l := rfl

@[simp] theorem byteSum_nil : byteSum [] = 0 := rfl

/-- The sum of joined bytes is the sum of their sums (R177). -/
@[simp] theorem byteSum_append (a b : List Byte) : byteSum (a ++ b) = byteSum a + byteSum b := by
  induction a with
  | nil => simp
  | cons x l ih => simp [ih, BitVec.add_assoc]

/-- A frame is sound exactly when its bytes sum to 0 (R177). -/
theorem frameSound_iff (l : List Byte) : frameSound l = true ↔ byteSum l = 0 := by simp [frameSound]

/-- Every response carries its status, its results and one check byte. -/
@[simp] theorem length_responseBytes (x : Status) (r : List Byte) : (responseBytes x r).length = r.length + 2 := by
  simp [responseBytes]

end Machine

end Sys2Proof
end

