-- ==== Sys2Proof/Laws/State.lean ====
section
/-! SUPPORT. Every field of State after every block update of Machine/Ops.lean. -/

namespace Sys2Proof.Machine

variable (s : State)

/-! ### setWindows -/

@[simp] theorem State.setWindows_rstN (x : Vector Window 32) : (s.setWindows x).rstN = s.rstN := rfl
@[simp] theorem State.setWindows_partState (x : Vector Window 32) : (s.setWindows x).partState = s.partState := rfl
@[simp] theorem State.setWindows_timeBase (x : Vector Window 32) : (s.setWindows x).timeBase = s.timeBase := rfl
@[simp] theorem State.setWindows_windows (x : Vector Window 32) : (s.setWindows x).windows = x := rfl
@[simp] theorem State.setWindows_queues (x : Vector Window 32) : (s.setWindows x).queues = s.queues := rfl
@[simp] theorem State.setWindows_staging (x : Vector Window 32) : (s.setWindows x).staging = s.staging := rfl
@[simp] theorem State.setWindows_snapshots (x : Vector Window 32) : (s.setWindows x).snapshots = s.snapshots := rfl
@[simp] theorem State.setWindows_snapshotUses (x : Vector Window 32) : (s.setWindows x).snapshotUses = s.snapshotUses := rfl
@[simp] theorem State.setWindows_interlock (x : Vector Window 32) : (s.setWindows x).interlock = s.interlock := rfl
@[simp] theorem State.setWindows_port (x : Vector Window 32) : (s.setWindows x).port = s.port := rfl
@[simp] theorem State.setWindows_notice (x : Vector Window 32) : (s.setWindows x).notice = s.notice := rfl
@[simp] theorem State.setWindows_link (x : Vector Window 32) : (s.setWindows x).link = s.link := rfl
@[simp] theorem State.setWindows_lastResponse (x : Vector Window 32) : (s.setWindows x).lastResponse = s.lastResponse := rfl
@[simp] theorem State.setWindows_transit (x : Vector Window 32) : (s.setWindows x).transit = s.transit := rfl
@[simp] theorem State.setWindows_heldBack (x : Vector Window 32) : (s.setWindows x).heldBack = s.heldBack := rfl
@[simp] theorem State.setWindows_pending (x : Vector Window 32) : (s.setWindows x).pending = s.pending := rfl

/-! ### setQueues -/

@[simp] theorem State.setQueues_rstN (x : Vector (List Entry) 16) : (s.setQueues x).rstN = s.rstN := rfl
@[simp] theorem State.setQueues_partState (x : Vector (List Entry) 16) : (s.setQueues x).partState = s.partState := rfl
@[simp] theorem State.setQueues_timeBase (x : Vector (List Entry) 16) : (s.setQueues x).timeBase = s.timeBase := rfl
@[simp] theorem State.setQueues_windows (x : Vector (List Entry) 16) : (s.setQueues x).windows = s.windows := rfl
@[simp] theorem State.setQueues_queues (x : Vector (List Entry) 16) : (s.setQueues x).queues = x := rfl
@[simp] theorem State.setQueues_staging (x : Vector (List Entry) 16) : (s.setQueues x).staging = s.staging := rfl
@[simp] theorem State.setQueues_snapshots (x : Vector (List Entry) 16) : (s.setQueues x).snapshots = s.snapshots := rfl
@[simp] theorem State.setQueues_snapshotUses (x : Vector (List Entry) 16) : (s.setQueues x).snapshotUses = s.snapshotUses := rfl
@[simp] theorem State.setQueues_interlock (x : Vector (List Entry) 16) : (s.setQueues x).interlock = s.interlock := rfl
@[simp] theorem State.setQueues_port (x : Vector (List Entry) 16) : (s.setQueues x).port = s.port := rfl
@[simp] theorem State.setQueues_notice (x : Vector (List Entry) 16) : (s.setQueues x).notice = s.notice := rfl
@[simp] theorem State.setQueues_link (x : Vector (List Entry) 16) : (s.setQueues x).link = s.link := rfl
@[simp] theorem State.setQueues_lastResponse (x : Vector (List Entry) 16) : (s.setQueues x).lastResponse = s.lastResponse := rfl
@[simp] theorem State.setQueues_transit (x : Vector (List Entry) 16) : (s.setQueues x).transit = s.transit := rfl
@[simp] theorem State.setQueues_heldBack (x : Vector (List Entry) 16) : (s.setQueues x).heldBack = s.heldBack := rfl
@[simp] theorem State.setQueues_pending (x : Vector (List Entry) 16) : (s.setQueues x).pending = s.pending := rfl

/-! ### setStaging -/

@[simp] theorem State.setStaging_rstN (x : Vector StagingSlot 16) : (s.setStaging x).rstN = s.rstN := rfl
@[simp] theorem State.setStaging_partState (x : Vector StagingSlot 16) : (s.setStaging x).partState = s.partState := rfl
@[simp] theorem State.setStaging_timeBase (x : Vector StagingSlot 16) : (s.setStaging x).timeBase = s.timeBase := rfl
@[simp] theorem State.setStaging_windows (x : Vector StagingSlot 16) : (s.setStaging x).windows = s.windows := rfl
@[simp] theorem State.setStaging_queues (x : Vector StagingSlot 16) : (s.setStaging x).queues = s.queues := rfl
@[simp] theorem State.setStaging_staging (x : Vector StagingSlot 16) : (s.setStaging x).staging = x := rfl
@[simp] theorem State.setStaging_snapshots (x : Vector StagingSlot 16) : (s.setStaging x).snapshots = s.snapshots := rfl
@[simp] theorem State.setStaging_snapshotUses (x : Vector StagingSlot 16) : (s.setStaging x).snapshotUses = s.snapshotUses := rfl
@[simp] theorem State.setStaging_interlock (x : Vector StagingSlot 16) : (s.setStaging x).interlock = s.interlock := rfl
@[simp] theorem State.setStaging_port (x : Vector StagingSlot 16) : (s.setStaging x).port = s.port := rfl
@[simp] theorem State.setStaging_notice (x : Vector StagingSlot 16) : (s.setStaging x).notice = s.notice := rfl
@[simp] theorem State.setStaging_link (x : Vector StagingSlot 16) : (s.setStaging x).link = s.link := rfl
@[simp] theorem State.setStaging_lastResponse (x : Vector StagingSlot 16) : (s.setStaging x).lastResponse = s.lastResponse := rfl
@[simp] theorem State.setStaging_transit (x : Vector StagingSlot 16) : (s.setStaging x).transit = s.transit := rfl
@[simp] theorem State.setStaging_heldBack (x : Vector StagingSlot 16) : (s.setStaging x).heldBack = s.heldBack := rfl
@[simp] theorem State.setStaging_pending (x : Vector StagingSlot 16) : (s.setStaging x).pending = s.pending := rfl

/-! ### setSnapshots -/

@[simp] theorem State.setSnapshots_rstN (x : Vector SnapshotSlot 24) : (s.setSnapshots x).rstN = s.rstN := rfl
@[simp] theorem State.setSnapshots_partState (x : Vector SnapshotSlot 24) : (s.setSnapshots x).partState = s.partState := rfl
@[simp] theorem State.setSnapshots_timeBase (x : Vector SnapshotSlot 24) : (s.setSnapshots x).timeBase = s.timeBase := rfl
@[simp] theorem State.setSnapshots_windows (x : Vector SnapshotSlot 24) : (s.setSnapshots x).windows = s.windows := rfl
@[simp] theorem State.setSnapshots_queues (x : Vector SnapshotSlot 24) : (s.setSnapshots x).queues = s.queues := rfl
@[simp] theorem State.setSnapshots_staging (x : Vector SnapshotSlot 24) : (s.setSnapshots x).staging = s.staging := rfl
@[simp] theorem State.setSnapshots_snapshots (x : Vector SnapshotSlot 24) : (s.setSnapshots x).snapshots = x := rfl
@[simp] theorem State.setSnapshots_snapshotUses (x : Vector SnapshotSlot 24) : (s.setSnapshots x).snapshotUses = s.snapshotUses := rfl
@[simp] theorem State.setSnapshots_interlock (x : Vector SnapshotSlot 24) : (s.setSnapshots x).interlock = s.interlock := rfl
@[simp] theorem State.setSnapshots_port (x : Vector SnapshotSlot 24) : (s.setSnapshots x).port = s.port := rfl
@[simp] theorem State.setSnapshots_notice (x : Vector SnapshotSlot 24) : (s.setSnapshots x).notice = s.notice := rfl
@[simp] theorem State.setSnapshots_link (x : Vector SnapshotSlot 24) : (s.setSnapshots x).link = s.link := rfl
@[simp] theorem State.setSnapshots_lastResponse (x : Vector SnapshotSlot 24) : (s.setSnapshots x).lastResponse = s.lastResponse := rfl
@[simp] theorem State.setSnapshots_transit (x : Vector SnapshotSlot 24) : (s.setSnapshots x).transit = s.transit := rfl
@[simp] theorem State.setSnapshots_heldBack (x : Vector SnapshotSlot 24) : (s.setSnapshots x).heldBack = s.heldBack := rfl
@[simp] theorem State.setSnapshots_pending (x : Vector SnapshotSlot 24) : (s.setSnapshots x).pending = s.pending := rfl

/-! ### setSnapshotUses -/

@[simp] theorem State.setSnapshotUses_rstN (x : Nat) : (s.setSnapshotUses x).rstN = s.rstN := rfl
@[simp] theorem State.setSnapshotUses_partState (x : Nat) : (s.setSnapshotUses x).partState = s.partState := rfl
@[simp] theorem State.setSnapshotUses_timeBase (x : Nat) : (s.setSnapshotUses x).timeBase = s.timeBase := rfl
@[simp] theorem State.setSnapshotUses_windows (x : Nat) : (s.setSnapshotUses x).windows = s.windows := rfl
@[simp] theorem State.setSnapshotUses_queues (x : Nat) : (s.setSnapshotUses x).queues = s.queues := rfl
@[simp] theorem State.setSnapshotUses_staging (x : Nat) : (s.setSnapshotUses x).staging = s.staging := rfl
@[simp] theorem State.setSnapshotUses_snapshots (x : Nat) : (s.setSnapshotUses x).snapshots = s.snapshots := rfl
@[simp] theorem State.setSnapshotUses_snapshotUses (x : Nat) : (s.setSnapshotUses x).snapshotUses = x := rfl
@[simp] theorem State.setSnapshotUses_interlock (x : Nat) : (s.setSnapshotUses x).interlock = s.interlock := rfl
@[simp] theorem State.setSnapshotUses_port (x : Nat) : (s.setSnapshotUses x).port = s.port := rfl
@[simp] theorem State.setSnapshotUses_notice (x : Nat) : (s.setSnapshotUses x).notice = s.notice := rfl
@[simp] theorem State.setSnapshotUses_link (x : Nat) : (s.setSnapshotUses x).link = s.link := rfl
@[simp] theorem State.setSnapshotUses_lastResponse (x : Nat) : (s.setSnapshotUses x).lastResponse = s.lastResponse := rfl
@[simp] theorem State.setSnapshotUses_transit (x : Nat) : (s.setSnapshotUses x).transit = s.transit := rfl
@[simp] theorem State.setSnapshotUses_heldBack (x : Nat) : (s.setSnapshotUses x).heldBack = s.heldBack := rfl
@[simp] theorem State.setSnapshotUses_pending (x : Nat) : (s.setSnapshotUses x).pending = s.pending := rfl

/-! ### setInterlock -/

@[simp] theorem State.setInterlock_rstN (x : Interlock) : (s.setInterlock x).rstN = s.rstN := rfl
@[simp] theorem State.setInterlock_partState (x : Interlock) : (s.setInterlock x).partState = s.partState := rfl
@[simp] theorem State.setInterlock_timeBase (x : Interlock) : (s.setInterlock x).timeBase = s.timeBase := rfl
@[simp] theorem State.setInterlock_windows (x : Interlock) : (s.setInterlock x).windows = s.windows := rfl
@[simp] theorem State.setInterlock_queues (x : Interlock) : (s.setInterlock x).queues = s.queues := rfl
@[simp] theorem State.setInterlock_staging (x : Interlock) : (s.setInterlock x).staging = s.staging := rfl
@[simp] theorem State.setInterlock_snapshots (x : Interlock) : (s.setInterlock x).snapshots = s.snapshots := rfl
@[simp] theorem State.setInterlock_snapshotUses (x : Interlock) : (s.setInterlock x).snapshotUses = s.snapshotUses := rfl
@[simp] theorem State.setInterlock_interlock (x : Interlock) : (s.setInterlock x).interlock = x := rfl
@[simp] theorem State.setInterlock_port (x : Interlock) : (s.setInterlock x).port = s.port := rfl
@[simp] theorem State.setInterlock_notice (x : Interlock) : (s.setInterlock x).notice = s.notice := rfl
@[simp] theorem State.setInterlock_link (x : Interlock) : (s.setInterlock x).link = s.link := rfl
@[simp] theorem State.setInterlock_lastResponse (x : Interlock) : (s.setInterlock x).lastResponse = s.lastResponse := rfl
@[simp] theorem State.setInterlock_transit (x : Interlock) : (s.setInterlock x).transit = s.transit := rfl
@[simp] theorem State.setInterlock_heldBack (x : Interlock) : (s.setInterlock x).heldBack = s.heldBack := rfl
@[simp] theorem State.setInterlock_pending (x : Interlock) : (s.setInterlock x).pending = s.pending := rfl

/-! ### setPort -/

@[simp] theorem State.setPort_rstN (x : MemoryPort) : (s.setPort x).rstN = s.rstN := rfl
@[simp] theorem State.setPort_partState (x : MemoryPort) : (s.setPort x).partState = s.partState := rfl
@[simp] theorem State.setPort_timeBase (x : MemoryPort) : (s.setPort x).timeBase = s.timeBase := rfl
@[simp] theorem State.setPort_windows (x : MemoryPort) : (s.setPort x).windows = s.windows := rfl
@[simp] theorem State.setPort_queues (x : MemoryPort) : (s.setPort x).queues = s.queues := rfl
@[simp] theorem State.setPort_staging (x : MemoryPort) : (s.setPort x).staging = s.staging := rfl
@[simp] theorem State.setPort_snapshots (x : MemoryPort) : (s.setPort x).snapshots = s.snapshots := rfl
@[simp] theorem State.setPort_snapshotUses (x : MemoryPort) : (s.setPort x).snapshotUses = s.snapshotUses := rfl
@[simp] theorem State.setPort_interlock (x : MemoryPort) : (s.setPort x).interlock = s.interlock := rfl
@[simp] theorem State.setPort_port (x : MemoryPort) : (s.setPort x).port = x := rfl
@[simp] theorem State.setPort_notice (x : MemoryPort) : (s.setPort x).notice = s.notice := rfl
@[simp] theorem State.setPort_link (x : MemoryPort) : (s.setPort x).link = s.link := rfl
@[simp] theorem State.setPort_lastResponse (x : MemoryPort) : (s.setPort x).lastResponse = s.lastResponse := rfl
@[simp] theorem State.setPort_transit (x : MemoryPort) : (s.setPort x).transit = s.transit := rfl
@[simp] theorem State.setPort_heldBack (x : MemoryPort) : (s.setPort x).heldBack = s.heldBack := rfl
@[simp] theorem State.setPort_pending (x : MemoryPort) : (s.setPort x).pending = s.pending := rfl

/-! ### setNotice -/

@[simp] theorem State.setNotice_rstN (x : NoticeUnit) : (s.setNotice x).rstN = s.rstN := rfl
@[simp] theorem State.setNotice_partState (x : NoticeUnit) : (s.setNotice x).partState = s.partState := rfl
@[simp] theorem State.setNotice_timeBase (x : NoticeUnit) : (s.setNotice x).timeBase = s.timeBase := rfl
@[simp] theorem State.setNotice_windows (x : NoticeUnit) : (s.setNotice x).windows = s.windows := rfl
@[simp] theorem State.setNotice_queues (x : NoticeUnit) : (s.setNotice x).queues = s.queues := rfl
@[simp] theorem State.setNotice_staging (x : NoticeUnit) : (s.setNotice x).staging = s.staging := rfl
@[simp] theorem State.setNotice_snapshots (x : NoticeUnit) : (s.setNotice x).snapshots = s.snapshots := rfl
@[simp] theorem State.setNotice_snapshotUses (x : NoticeUnit) : (s.setNotice x).snapshotUses = s.snapshotUses := rfl
@[simp] theorem State.setNotice_interlock (x : NoticeUnit) : (s.setNotice x).interlock = s.interlock := rfl
@[simp] theorem State.setNotice_port (x : NoticeUnit) : (s.setNotice x).port = s.port := rfl
@[simp] theorem State.setNotice_notice (x : NoticeUnit) : (s.setNotice x).notice = x := rfl
@[simp] theorem State.setNotice_link (x : NoticeUnit) : (s.setNotice x).link = s.link := rfl
@[simp] theorem State.setNotice_lastResponse (x : NoticeUnit) : (s.setNotice x).lastResponse = s.lastResponse := rfl
@[simp] theorem State.setNotice_transit (x : NoticeUnit) : (s.setNotice x).transit = s.transit := rfl
@[simp] theorem State.setNotice_heldBack (x : NoticeUnit) : (s.setNotice x).heldBack = s.heldBack := rfl
@[simp] theorem State.setNotice_pending (x : NoticeUnit) : (s.setNotice x).pending = s.pending := rfl

/-! ### setTimeBase -/

@[simp] theorem State.setTimeBase_rstN (x : TimeBase) : (s.setTimeBase x).rstN = s.rstN := rfl
@[simp] theorem State.setTimeBase_partState (x : TimeBase) : (s.setTimeBase x).partState = s.partState := rfl
@[simp] theorem State.setTimeBase_timeBase (x : TimeBase) : (s.setTimeBase x).timeBase = x := rfl
@[simp] theorem State.setTimeBase_windows (x : TimeBase) : (s.setTimeBase x).windows = s.windows := rfl
@[simp] theorem State.setTimeBase_queues (x : TimeBase) : (s.setTimeBase x).queues = s.queues := rfl
@[simp] theorem State.setTimeBase_staging (x : TimeBase) : (s.setTimeBase x).staging = s.staging := rfl
@[simp] theorem State.setTimeBase_snapshots (x : TimeBase) : (s.setTimeBase x).snapshots = s.snapshots := rfl
@[simp] theorem State.setTimeBase_snapshotUses (x : TimeBase) : (s.setTimeBase x).snapshotUses = s.snapshotUses := rfl
@[simp] theorem State.setTimeBase_interlock (x : TimeBase) : (s.setTimeBase x).interlock = s.interlock := rfl
@[simp] theorem State.setTimeBase_port (x : TimeBase) : (s.setTimeBase x).port = s.port := rfl
@[simp] theorem State.setTimeBase_notice (x : TimeBase) : (s.setTimeBase x).notice = s.notice := rfl
@[simp] theorem State.setTimeBase_link (x : TimeBase) : (s.setTimeBase x).link = s.link := rfl
@[simp] theorem State.setTimeBase_lastResponse (x : TimeBase) : (s.setTimeBase x).lastResponse = s.lastResponse := rfl
@[simp] theorem State.setTimeBase_transit (x : TimeBase) : (s.setTimeBase x).transit = s.transit := rfl
@[simp] theorem State.setTimeBase_heldBack (x : TimeBase) : (s.setTimeBase x).heldBack = s.heldBack := rfl
@[simp] theorem State.setTimeBase_pending (x : TimeBase) : (s.setTimeBase x).pending = s.pending := rfl

/-! ### setPartState -/

@[simp] theorem State.setPartState_rstN (x : PartState) : (s.setPartState x).rstN = s.rstN := rfl
@[simp] theorem State.setPartState_partState (x : PartState) : (s.setPartState x).partState = x := rfl
@[simp] theorem State.setPartState_timeBase (x : PartState) : (s.setPartState x).timeBase = s.timeBase := rfl
@[simp] theorem State.setPartState_windows (x : PartState) : (s.setPartState x).windows = s.windows := rfl
@[simp] theorem State.setPartState_queues (x : PartState) : (s.setPartState x).queues = s.queues := rfl
@[simp] theorem State.setPartState_staging (x : PartState) : (s.setPartState x).staging = s.staging := rfl
@[simp] theorem State.setPartState_snapshots (x : PartState) : (s.setPartState x).snapshots = s.snapshots := rfl
@[simp] theorem State.setPartState_snapshotUses (x : PartState) : (s.setPartState x).snapshotUses = s.snapshotUses := rfl
@[simp] theorem State.setPartState_interlock (x : PartState) : (s.setPartState x).interlock = s.interlock := rfl
@[simp] theorem State.setPartState_port (x : PartState) : (s.setPartState x).port = s.port := rfl
@[simp] theorem State.setPartState_notice (x : PartState) : (s.setPartState x).notice = s.notice := rfl
@[simp] theorem State.setPartState_link (x : PartState) : (s.setPartState x).link = s.link := rfl
@[simp] theorem State.setPartState_lastResponse (x : PartState) : (s.setPartState x).lastResponse = s.lastResponse := rfl
@[simp] theorem State.setPartState_transit (x : PartState) : (s.setPartState x).transit = s.transit := rfl
@[simp] theorem State.setPartState_heldBack (x : PartState) : (s.setPartState x).heldBack = s.heldBack := rfl
@[simp] theorem State.setPartState_pending (x : PartState) : (s.setPartState x).pending = s.pending := rfl

/-! ### setLink -/

@[simp] theorem State.setLink_rstN (x : Link) : (s.setLink x).rstN = s.rstN := rfl
@[simp] theorem State.setLink_partState (x : Link) : (s.setLink x).partState = s.partState := rfl
@[simp] theorem State.setLink_timeBase (x : Link) : (s.setLink x).timeBase = s.timeBase := rfl
@[simp] theorem State.setLink_windows (x : Link) : (s.setLink x).windows = s.windows := rfl
@[simp] theorem State.setLink_queues (x : Link) : (s.setLink x).queues = s.queues := rfl
@[simp] theorem State.setLink_staging (x : Link) : (s.setLink x).staging = s.staging := rfl
@[simp] theorem State.setLink_snapshots (x : Link) : (s.setLink x).snapshots = s.snapshots := rfl
@[simp] theorem State.setLink_snapshotUses (x : Link) : (s.setLink x).snapshotUses = s.snapshotUses := rfl
@[simp] theorem State.setLink_interlock (x : Link) : (s.setLink x).interlock = s.interlock := rfl
@[simp] theorem State.setLink_port (x : Link) : (s.setLink x).port = s.port := rfl
@[simp] theorem State.setLink_notice (x : Link) : (s.setLink x).notice = s.notice := rfl
@[simp] theorem State.setLink_link (x : Link) : (s.setLink x).link = x := rfl
@[simp] theorem State.setLink_lastResponse (x : Link) : (s.setLink x).lastResponse = s.lastResponse := rfl
@[simp] theorem State.setLink_transit (x : Link) : (s.setLink x).transit = s.transit := rfl
@[simp] theorem State.setLink_heldBack (x : Link) : (s.setLink x).heldBack = s.heldBack := rfl
@[simp] theorem State.setLink_pending (x : Link) : (s.setLink x).pending = s.pending := rfl

/-! ### setLastResponse -/

@[simp] theorem State.setLastResponse_rstN (x : Option Response) : (s.setLastResponse x).rstN = s.rstN := rfl
@[simp] theorem State.setLastResponse_partState (x : Option Response) : (s.setLastResponse x).partState = s.partState := rfl
@[simp] theorem State.setLastResponse_timeBase (x : Option Response) : (s.setLastResponse x).timeBase = s.timeBase := rfl
@[simp] theorem State.setLastResponse_windows (x : Option Response) : (s.setLastResponse x).windows = s.windows := rfl
@[simp] theorem State.setLastResponse_queues (x : Option Response) : (s.setLastResponse x).queues = s.queues := rfl
@[simp] theorem State.setLastResponse_staging (x : Option Response) : (s.setLastResponse x).staging = s.staging := rfl
@[simp] theorem State.setLastResponse_snapshots (x : Option Response) : (s.setLastResponse x).snapshots = s.snapshots := rfl
@[simp] theorem State.setLastResponse_snapshotUses (x : Option Response) : (s.setLastResponse x).snapshotUses = s.snapshotUses := rfl
@[simp] theorem State.setLastResponse_interlock (x : Option Response) : (s.setLastResponse x).interlock = s.interlock := rfl
@[simp] theorem State.setLastResponse_port (x : Option Response) : (s.setLastResponse x).port = s.port := rfl
@[simp] theorem State.setLastResponse_notice (x : Option Response) : (s.setLastResponse x).notice = s.notice := rfl
@[simp] theorem State.setLastResponse_link (x : Option Response) : (s.setLastResponse x).link = s.link := rfl
@[simp] theorem State.setLastResponse_lastResponse (x : Option Response) : (s.setLastResponse x).lastResponse = x := rfl
@[simp] theorem State.setLastResponse_transit (x : Option Response) : (s.setLastResponse x).transit = s.transit := rfl
@[simp] theorem State.setLastResponse_heldBack (x : Option Response) : (s.setLastResponse x).heldBack = s.heldBack := rfl
@[simp] theorem State.setLastResponse_pending (x : Option Response) : (s.setLastResponse x).pending = s.pending := rfl

/-! ### setTransit -/

@[simp] theorem State.setTransit_rstN (x : List HandOver) : (s.setTransit x).rstN = s.rstN := rfl
@[simp] theorem State.setTransit_partState (x : List HandOver) : (s.setTransit x).partState = s.partState := rfl
@[simp] theorem State.setTransit_timeBase (x : List HandOver) : (s.setTransit x).timeBase = s.timeBase := rfl
@[simp] theorem State.setTransit_windows (x : List HandOver) : (s.setTransit x).windows = s.windows := rfl
@[simp] theorem State.setTransit_queues (x : List HandOver) : (s.setTransit x).queues = s.queues := rfl
@[simp] theorem State.setTransit_staging (x : List HandOver) : (s.setTransit x).staging = s.staging := rfl
@[simp] theorem State.setTransit_snapshots (x : List HandOver) : (s.setTransit x).snapshots = s.snapshots := rfl
@[simp] theorem State.setTransit_snapshotUses (x : List HandOver) : (s.setTransit x).snapshotUses = s.snapshotUses := rfl
@[simp] theorem State.setTransit_interlock (x : List HandOver) : (s.setTransit x).interlock = s.interlock := rfl
@[simp] theorem State.setTransit_port (x : List HandOver) : (s.setTransit x).port = s.port := rfl
@[simp] theorem State.setTransit_notice (x : List HandOver) : (s.setTransit x).notice = s.notice := rfl
@[simp] theorem State.setTransit_link (x : List HandOver) : (s.setTransit x).link = s.link := rfl
@[simp] theorem State.setTransit_lastResponse (x : List HandOver) : (s.setTransit x).lastResponse = s.lastResponse := rfl
@[simp] theorem State.setTransit_transit (x : List HandOver) : (s.setTransit x).transit = x := rfl
@[simp] theorem State.setTransit_heldBack (x : List HandOver) : (s.setTransit x).heldBack = s.heldBack := rfl
@[simp] theorem State.setTransit_pending (x : List HandOver) : (s.setTransit x).pending = s.pending := rfl

/-! ### setHeldBack -/

@[simp] theorem State.setHeldBack_rstN (x : Bool) : (s.setHeldBack x).rstN = s.rstN := rfl
@[simp] theorem State.setHeldBack_partState (x : Bool) : (s.setHeldBack x).partState = s.partState := rfl
@[simp] theorem State.setHeldBack_timeBase (x : Bool) : (s.setHeldBack x).timeBase = s.timeBase := rfl
@[simp] theorem State.setHeldBack_windows (x : Bool) : (s.setHeldBack x).windows = s.windows := rfl
@[simp] theorem State.setHeldBack_queues (x : Bool) : (s.setHeldBack x).queues = s.queues := rfl
@[simp] theorem State.setHeldBack_staging (x : Bool) : (s.setHeldBack x).staging = s.staging := rfl
@[simp] theorem State.setHeldBack_snapshots (x : Bool) : (s.setHeldBack x).snapshots = s.snapshots := rfl
@[simp] theorem State.setHeldBack_snapshotUses (x : Bool) : (s.setHeldBack x).snapshotUses = s.snapshotUses := rfl
@[simp] theorem State.setHeldBack_interlock (x : Bool) : (s.setHeldBack x).interlock = s.interlock := rfl
@[simp] theorem State.setHeldBack_port (x : Bool) : (s.setHeldBack x).port = s.port := rfl
@[simp] theorem State.setHeldBack_notice (x : Bool) : (s.setHeldBack x).notice = s.notice := rfl
@[simp] theorem State.setHeldBack_link (x : Bool) : (s.setHeldBack x).link = s.link := rfl
@[simp] theorem State.setHeldBack_lastResponse (x : Bool) : (s.setHeldBack x).lastResponse = s.lastResponse := rfl
@[simp] theorem State.setHeldBack_transit (x : Bool) : (s.setHeldBack x).transit = s.transit := rfl
@[simp] theorem State.setHeldBack_heldBack (x : Bool) : (s.setHeldBack x).heldBack = x := rfl
@[simp] theorem State.setHeldBack_pending (x : Bool) : (s.setHeldBack x).pending = s.pending := rfl

/-! ### setPending -/

@[simp] theorem State.setPending_rstN (x : List Instr) : (s.setPending x).rstN = s.rstN := rfl
@[simp] theorem State.setPending_partState (x : List Instr) : (s.setPending x).partState = s.partState := rfl
@[simp] theorem State.setPending_timeBase (x : List Instr) : (s.setPending x).timeBase = s.timeBase := rfl
@[simp] theorem State.setPending_windows (x : List Instr) : (s.setPending x).windows = s.windows := rfl
@[simp] theorem State.setPending_queues (x : List Instr) : (s.setPending x).queues = s.queues := rfl
@[simp] theorem State.setPending_staging (x : List Instr) : (s.setPending x).staging = s.staging := rfl
@[simp] theorem State.setPending_snapshots (x : List Instr) : (s.setPending x).snapshots = s.snapshots := rfl
@[simp] theorem State.setPending_snapshotUses (x : List Instr) : (s.setPending x).snapshotUses = s.snapshotUses := rfl
@[simp] theorem State.setPending_interlock (x : List Instr) : (s.setPending x).interlock = s.interlock := rfl
@[simp] theorem State.setPending_port (x : List Instr) : (s.setPending x).port = s.port := rfl
@[simp] theorem State.setPending_notice (x : List Instr) : (s.setPending x).notice = s.notice := rfl
@[simp] theorem State.setPending_link (x : List Instr) : (s.setPending x).link = s.link := rfl
@[simp] theorem State.setPending_lastResponse (x : List Instr) : (s.setPending x).lastResponse = s.lastResponse := rfl
@[simp] theorem State.setPending_transit (x : List Instr) : (s.setPending x).transit = s.transit := rfl
@[simp] theorem State.setPending_heldBack (x : List Instr) : (s.setPending x).heldBack = s.heldBack := rfl
@[simp] theorem State.setPending_pending (x : List Instr) : (s.setPending x).pending = x := rfl

end Sys2Proof.Machine
end

