-- ==== Sys2Proof/Laws/Frames.lean ====
section
/-! SUPPORT. What each shared operation leaves unchanged, one lemma per operation. -/

namespace Sys2Proof.Machine

variable (s : State)

/-- One window entry is changed, nothing else. -/
@[simp] theorem State.updateWindow_frame (w : WindowId) (f : Window → Window) :
    (s.updateWindow w f).rstN = s.rstN ∧ (s.updateWindow w f).partState = s.partState
      ∧ (s.updateWindow w f).timeBase = s.timeBase ∧ (s.updateWindow w f).queues = s.queues
      ∧ (s.updateWindow w f).staging = s.staging ∧ (s.updateWindow w f).snapshots = s.snapshots
      ∧ (s.updateWindow w f).snapshotUses = s.snapshotUses ∧ (s.updateWindow w f).interlock = s.interlock
      ∧ (s.updateWindow w f).port = s.port ∧ (s.updateWindow w f).notice = s.notice
      ∧ (s.updateWindow w f).link = s.link ∧ (s.updateWindow w f).lastResponse = s.lastResponse
      ∧ (s.updateWindow w f).transit = s.transit ∧ (s.updateWindow w f).heldBack = s.heldBack
      ∧ (s.updateWindow w f).pending = s.pending := by
  simp [State.updateWindow]

/-- A hand-over stands in transit (R182). -/
@[simp] theorem State.handOver_frame (h : HandOver) :
    (s.handOver h).rstN = s.rstN ∧ (s.handOver h).partState = s.partState
      ∧ (s.handOver h).timeBase = s.timeBase ∧ (s.handOver h).windows = s.windows
      ∧ (s.handOver h).queues = s.queues ∧ (s.handOver h).staging = s.staging
      ∧ (s.handOver h).snapshots = s.snapshots ∧ (s.handOver h).snapshotUses = s.snapshotUses
      ∧ (s.handOver h).interlock = s.interlock ∧ (s.handOver h).port = s.port
      ∧ (s.handOver h).notice = s.notice ∧ (s.handOver h).link = s.link
      ∧ (s.handOver h).lastResponse = s.lastResponse ∧ (s.handOver h).heldBack = s.heldBack
      ∧ (s.handOver h).pending = s.pending := by
  simp [State.handOver]

/-- An event raised stands in transit (R143, log 8). -/
@[simp] theorem State.raise_frame (cls : ClassId) (e : Event) :
    (s.raise cls e).rstN = s.rstN ∧ (s.raise cls e).partState = s.partState
      ∧ (s.raise cls e).timeBase = s.timeBase ∧ (s.raise cls e).windows = s.windows
      ∧ (s.raise cls e).queues = s.queues ∧ (s.raise cls e).staging = s.staging
      ∧ (s.raise cls e).snapshots = s.snapshots ∧ (s.raise cls e).snapshotUses = s.snapshotUses
      ∧ (s.raise cls e).interlock = s.interlock ∧ (s.raise cls e).port = s.port
      ∧ (s.raise cls e).notice = s.notice ∧ (s.raise cls e).link = s.link
      ∧ (s.raise cls e).lastResponse = s.lastResponse ∧ (s.raise cls e).heldBack = s.heldBack
      ∧ (s.raise cls e).pending = s.pending := by
  simp [State.raise]

/-- An event raised stands in transit (R144, log 8). -/
@[simp] theorem State.raiseWindow_frame (w : WindowId) (e : Event) :
    (s.raiseWindow w e).rstN = s.rstN ∧ (s.raiseWindow w e).partState = s.partState
      ∧ (s.raiseWindow w e).timeBase = s.timeBase ∧ (s.raiseWindow w e).windows = s.windows
      ∧ (s.raiseWindow w e).queues = s.queues ∧ (s.raiseWindow w e).staging = s.staging
      ∧ (s.raiseWindow w e).snapshots = s.snapshots ∧ (s.raiseWindow w e).snapshotUses = s.snapshotUses
      ∧ (s.raiseWindow w e).interlock = s.interlock ∧ (s.raiseWindow w e).port = s.port
      ∧ (s.raiseWindow w e).notice = s.notice ∧ (s.raiseWindow w e).link = s.link
      ∧ (s.raiseWindow w e).lastResponse = s.lastResponse ∧ (s.raiseWindow w e).heldBack = s.heldBack
      ∧ (s.raiseWindow w e).pending = s.pending := by
  simp [State.raiseWindow]

/-- An optional event changes at most what is in transit (R144). -/
@[simp] theorem State.raiseIf_frame (b : Bool) (w : WindowId) (e : Event) :
    (s.raiseIf b w e).rstN = s.rstN ∧ (s.raiseIf b w e).partState = s.partState
      ∧ (s.raiseIf b w e).timeBase = s.timeBase ∧ (s.raiseIf b w e).windows = s.windows
      ∧ (s.raiseIf b w e).queues = s.queues ∧ (s.raiseIf b w e).staging = s.staging
      ∧ (s.raiseIf b w e).snapshots = s.snapshots ∧ (s.raiseIf b w e).snapshotUses = s.snapshotUses
      ∧ (s.raiseIf b w e).interlock = s.interlock ∧ (s.raiseIf b w e).port = s.port
      ∧ (s.raiseIf b w e).notice = s.notice ∧ (s.raiseIf b w e).link = s.link
      ∧ (s.raiseIf b w e).lastResponse = s.lastResponse ∧ (s.raiseIf b w e).heldBack = s.heldBack
      ∧ (s.raiseIf b w e).pending = s.pending := by
  unfold State.raiseIf; (repeat' split) <;> simp

/-- An event that reaches its class changes the notice unit alone (R143). -/
@[simp] theorem State.countEvent_frame (cls : ClassId) (e : Event) :
    (s.countEvent cls e).rstN = s.rstN ∧ (s.countEvent cls e).partState = s.partState
      ∧ (s.countEvent cls e).timeBase = s.timeBase ∧ (s.countEvent cls e).windows = s.windows
      ∧ (s.countEvent cls e).queues = s.queues ∧ (s.countEvent cls e).staging = s.staging
      ∧ (s.countEvent cls e).snapshots = s.snapshots ∧ (s.countEvent cls e).snapshotUses = s.snapshotUses
      ∧ (s.countEvent cls e).interlock = s.interlock ∧ (s.countEvent cls e).port = s.port
      ∧ (s.countEvent cls e).link = s.link ∧ (s.countEvent cls e).lastResponse = s.lastResponse
      ∧ (s.countEvent cls e).transit = s.transit ∧ (s.countEvent cls e).heldBack = s.heldBack
      ∧ (s.countEvent cls e).pending = s.pending := by
  simp [State.countEvent]

/-- An entry's change is a change of the queues. -/
@[simp] theorem State.updateEntry_frame (n : Initiator) (tag : Fin 4) (f : Entry → Entry) :
    (s.updateEntry n tag f).rstN = s.rstN ∧ (s.updateEntry n tag f).partState = s.partState
      ∧ (s.updateEntry n tag f).timeBase = s.timeBase ∧ (s.updateEntry n tag f).windows = s.windows
      ∧ (s.updateEntry n tag f).staging = s.staging ∧ (s.updateEntry n tag f).snapshots = s.snapshots
      ∧ (s.updateEntry n tag f).snapshotUses = s.snapshotUses ∧ (s.updateEntry n tag f).interlock = s.interlock
      ∧ (s.updateEntry n tag f).port = s.port ∧ (s.updateEntry n tag f).notice = s.notice
      ∧ (s.updateEntry n tag f).link = s.link ∧ (s.updateEntry n tag f).lastResponse = s.lastResponse
      ∧ (s.updateEntry n tag f).transit = s.transit ∧ (s.updateEntry n tag f).heldBack = s.heldBack
      ∧ (s.updateEntry n tag f).pending = s.pending := by
  simp [State.updateEntry]

/-- A word's outcome changes the queues alone (R5). -/
@[simp] theorem State.answer_frame (r : WordRef) (c : Code) (d : Word) :
    (s.answer r c d).rstN = s.rstN ∧ (s.answer r c d).partState = s.partState
      ∧ (s.answer r c d).timeBase = s.timeBase ∧ (s.answer r c d).windows = s.windows
      ∧ (s.answer r c d).staging = s.staging ∧ (s.answer r c d).snapshots = s.snapshots
      ∧ (s.answer r c d).snapshotUses = s.snapshotUses ∧ (s.answer r c d).interlock = s.interlock
      ∧ (s.answer r c d).port = s.port ∧ (s.answer r c d).notice = s.notice ∧ (s.answer r c d).link = s.link
      ∧ (s.answer r c d).lastResponse = s.lastResponse ∧ (s.answer r c d).transit = s.transit
      ∧ (s.answer r c d).heldBack = s.heldBack ∧ (s.answer r c d).pending = s.pending := by
  simp [State.answer]

/-- Word outcomes change the queues alone (R5). -/
@[simp] theorem State.answerEach_frame (refs : List WordRef) (c : Code) (d : List Word) :
    (s.answerEach refs c d).rstN = s.rstN ∧ (s.answerEach refs c d).partState = s.partState
      ∧ (s.answerEach refs c d).timeBase = s.timeBase ∧ (s.answerEach refs c d).windows = s.windows
      ∧ (s.answerEach refs c d).staging = s.staging ∧ (s.answerEach refs c d).snapshots = s.snapshots
      ∧ (s.answerEach refs c d).snapshotUses = s.snapshotUses ∧ (s.answerEach refs c d).interlock = s.interlock
      ∧ (s.answerEach refs c d).port = s.port ∧ (s.answerEach refs c d).notice = s.notice
      ∧ (s.answerEach refs c d).link = s.link ∧ (s.answerEach refs c d).lastResponse = s.lastResponse
      ∧ (s.answerEach refs c d).transit = s.transit ∧ (s.answerEach refs c d).heldBack = s.heldBack
      ∧ (s.answerEach refs c d).pending = s.pending := by
  induction refs generalizing s d with
  | nil => simp [State.answerEach]
  | cons r rs ih => simp [State.answerEach, ih]

/-- A start that is part of a close stands in the queue (R166). -/
@[simp] theorem State.passClosing_frame (n : Initiator) (m : Moment) :
    (s.passClosing n m).rstN = s.rstN ∧ (s.passClosing n m).partState = s.partState
      ∧ (s.passClosing n m).timeBase = s.timeBase ∧ (s.passClosing n m).windows = s.windows
      ∧ (s.passClosing n m).staging = s.staging ∧ (s.passClosing n m).snapshots = s.snapshots
      ∧ (s.passClosing n m).snapshotUses = s.snapshotUses ∧ (s.passClosing n m).interlock = s.interlock
      ∧ (s.passClosing n m).port = s.port ∧ (s.passClosing n m).notice = s.notice
      ∧ (s.passClosing n m).link = s.link ∧ (s.passClosing n m).lastResponse = s.lastResponse
      ∧ (s.passClosing n m).transit = s.transit ∧ (s.passClosing n m).heldBack = s.heldBack
      ∧ (s.passClosing n m).pending = s.pending := by
  unfold State.passClosing; (repeat' split) <;> simp

/-- Owed restarts stand in the queues (R10). -/
@[simp] theorem State.markRestarts_frame (p : Hold → Bool) (m : Moment) :
    (s.markRestarts p m).rstN = s.rstN ∧ (s.markRestarts p m).partState = s.partState
      ∧ (s.markRestarts p m).timeBase = s.timeBase ∧ (s.markRestarts p m).windows = s.windows
      ∧ (s.markRestarts p m).staging = s.staging ∧ (s.markRestarts p m).snapshots = s.snapshots
      ∧ (s.markRestarts p m).snapshotUses = s.snapshotUses ∧ (s.markRestarts p m).interlock = s.interlock
      ∧ (s.markRestarts p m).port = s.port ∧ (s.markRestarts p m).notice = s.notice
      ∧ (s.markRestarts p m).link = s.link ∧ (s.markRestarts p m).lastResponse = s.lastResponse
      ∧ (s.markRestarts p m).transit = s.transit ∧ (s.markRestarts p m).heldBack = s.heldBack
      ∧ (s.markRestarts p m).pending = s.pending := by
  simp [State.markRestarts]

/-- A drain check changes at most its window, the held words and what is in transit (R29). -/
@[simp] theorem State.drainCheck_frame (w : WindowId) (m : Moment) :
    (s.drainCheck w m).rstN = s.rstN ∧ (s.drainCheck w m).partState = s.partState
      ∧ (s.drainCheck w m).timeBase = s.timeBase ∧ (s.drainCheck w m).staging = s.staging
      ∧ (s.drainCheck w m).snapshots = s.snapshots ∧ (s.drainCheck w m).snapshotUses = s.snapshotUses
      ∧ (s.drainCheck w m).interlock = s.interlock ∧ (s.drainCheck w m).port = s.port
      ∧ (s.drainCheck w m).notice = s.notice ∧ (s.drainCheck w m).link = s.link
      ∧ (s.drainCheck w m).lastResponse = s.lastResponse ∧ (s.drainCheck w m).heldBack = s.heldBack
      ∧ (s.drainCheck w m).pending = s.pending := by
  unfold State.drainCheck; (repeat' split) <;> simp

/-- The freeing of a staging slot (R55). -/
@[simp] theorem State.freeStaging_frame (slot : Fin 16) (m : Moment) :
    (s.freeStaging slot m).rstN = s.rstN ∧ (s.freeStaging slot m).partState = s.partState
      ∧ (s.freeStaging slot m).timeBase = s.timeBase ∧ (s.freeStaging slot m).windows = s.windows
      ∧ (s.freeStaging slot m).snapshots = s.snapshots ∧ (s.freeStaging slot m).snapshotUses = s.snapshotUses
      ∧ (s.freeStaging slot m).interlock = s.interlock ∧ (s.freeStaging slot m).port = s.port
      ∧ (s.freeStaging slot m).notice = s.notice ∧ (s.freeStaging slot m).link = s.link
      ∧ (s.freeStaging slot m).lastResponse = s.lastResponse ∧ (s.freeStaging slot m).heldBack = s.heldBack
      ∧ (s.freeStaging slot m).pending = s.pending := by
  unfold State.freeStaging; (repeat' split) <;> simp

/-- A response changes the link alone (R176). -/
@[simp] theorem State.respond_frame (x : Status) (r : List Byte) :
    (s.respond x r).rstN = s.rstN ∧ (s.respond x r).partState = s.partState
      ∧ (s.respond x r).timeBase = s.timeBase ∧ (s.respond x r).windows = s.windows
      ∧ (s.respond x r).queues = s.queues ∧ (s.respond x r).staging = s.staging
      ∧ (s.respond x r).snapshots = s.snapshots ∧ (s.respond x r).snapshotUses = s.snapshotUses
      ∧ (s.respond x r).interlock = s.interlock ∧ (s.respond x r).port = s.port
      ∧ (s.respond x r).notice = s.notice ∧ (s.respond x r).lastResponse = s.lastResponse
      ∧ (s.respond x r).transit = s.transit ∧ (s.respond x r).heldBack = s.heldBack
      ∧ (s.respond x r).pending = s.pending := by
  simp [State.respond]

/-- A frame cut or discarded changes the link alone (R178, R180). -/
@[simp] theorem State.cutFrame_frame :
    s.cutFrame.rstN = s.rstN ∧ s.cutFrame.partState = s.partState ∧ s.cutFrame.timeBase = s.timeBase
      ∧ s.cutFrame.windows = s.windows ∧ s.cutFrame.queues = s.queues ∧ s.cutFrame.staging = s.staging
      ∧ s.cutFrame.snapshots = s.snapshots ∧ s.cutFrame.snapshotUses = s.snapshotUses
      ∧ s.cutFrame.interlock = s.interlock ∧ s.cutFrame.port = s.port ∧ s.cutFrame.notice = s.notice
      ∧ s.cutFrame.lastResponse = s.lastResponse ∧ s.cutFrame.transit = s.transit
      ∧ s.cutFrame.heldBack = s.heldBack ∧ s.cutFrame.pending = s.pending := by
  simp [State.cutFrame]

/-- A reservation is made in the interlock (R68). -/
@[simp] theorem State.reserve_frame (o : ReservationOwner) (rs : List RecordId) (b : Burst) :
    (s.reserve o rs b).rstN = s.rstN ∧ (s.reserve o rs b).partState = s.partState
      ∧ (s.reserve o rs b).timeBase = s.timeBase ∧ (s.reserve o rs b).windows = s.windows
      ∧ (s.reserve o rs b).queues = s.queues ∧ (s.reserve o rs b).staging = s.staging
      ∧ (s.reserve o rs b).snapshots = s.snapshots ∧ (s.reserve o rs b).snapshotUses = s.snapshotUses
      ∧ (s.reserve o rs b).port = s.port ∧ (s.reserve o rs b).notice = s.notice
      ∧ (s.reserve o rs b).link = s.link ∧ (s.reserve o rs b).lastResponse = s.lastResponse
      ∧ (s.reserve o rs b).transit = s.transit ∧ (s.reserve o rs b).heldBack = s.heldBack
      ∧ (s.reserve o rs b).pending = s.pending := by
  simp [State.reserve]

/-- A reservation's change is a change of the interlock. -/
@[simp] theorem State.updateReservation_frame (id : Fin 8) (f : Reservation → Reservation) :
    (s.updateReservation id f).rstN = s.rstN ∧ (s.updateReservation id f).partState = s.partState
      ∧ (s.updateReservation id f).timeBase = s.timeBase ∧ (s.updateReservation id f).windows = s.windows
      ∧ (s.updateReservation id f).queues = s.queues ∧ (s.updateReservation id f).staging = s.staging
      ∧ (s.updateReservation id f).snapshots = s.snapshots
      ∧ (s.updateReservation id f).snapshotUses = s.snapshotUses ∧ (s.updateReservation id f).port = s.port
      ∧ (s.updateReservation id f).notice = s.notice ∧ (s.updateReservation id f).link = s.link
      ∧ (s.updateReservation id f).lastResponse = s.lastResponse
      ∧ (s.updateReservation id f).transit = s.transit ∧ (s.updateReservation id f).heldBack = s.heldBack
      ∧ (s.updateReservation id f).pending = s.pending := by
  simp [State.updateReservation]

/-- A COMMIT's taking: the window's sequence, the slot, the table (R75, R76). -/
@[simp] theorem State.takeCommit_frame (slot : Fin 16) (rs : List RecordId) :
    (s.takeCommit slot rs).rstN = s.rstN ∧ (s.takeCommit slot rs).partState = s.partState
      ∧ (s.takeCommit slot rs).timeBase = s.timeBase ∧ (s.takeCommit slot rs).queues = s.queues
      ∧ (s.takeCommit slot rs).snapshots = s.snapshots ∧ (s.takeCommit slot rs).snapshotUses = s.snapshotUses
      ∧ (s.takeCommit slot rs).port = s.port ∧ (s.takeCommit slot rs).notice = s.notice
      ∧ (s.takeCommit slot rs).link = s.link ∧ (s.takeCommit slot rs).lastResponse = s.lastResponse
      ∧ (s.takeCommit slot rs).transit = s.transit ∧ (s.takeCommit slot rs).heldBack = s.heldBack
      ∧ (s.takeCommit slot rs).pending = s.pending := by
  unfold State.takeCommit; (repeat' split) <;> simp

/-- A LOAD's taking changes the table alone (R97). -/
@[simp] theorem State.takeLoad_frame (slot : Fin 24) (rs : List RecordId) :
    (s.takeLoad slot rs).rstN = s.rstN ∧ (s.takeLoad slot rs).partState = s.partState
      ∧ (s.takeLoad slot rs).timeBase = s.timeBase ∧ (s.takeLoad slot rs).windows = s.windows
      ∧ (s.takeLoad slot rs).queues = s.queues ∧ (s.takeLoad slot rs).staging = s.staging
      ∧ (s.takeLoad slot rs).snapshots = s.snapshots ∧ (s.takeLoad slot rs).snapshotUses = s.snapshotUses
      ∧ (s.takeLoad slot rs).port = s.port ∧ (s.takeLoad slot rs).notice = s.notice
      ∧ (s.takeLoad slot rs).link = s.link ∧ (s.takeLoad slot rs).lastResponse = s.lastResponse
      ∧ (s.takeLoad slot rs).transit = s.transit ∧ (s.takeLoad slot rs).heldBack = s.heldBack
      ∧ (s.takeLoad slot rs).pending = s.pending := by
  unfold State.takeLoad; (repeat' split) <;> simp

/-- A direct list belongs to the memory port (R130). -/
@[simp] theorem State.updateDirect_frame (n : Initiator) (f : List DirectItem → List DirectItem) :
    (s.updateDirect n f).rstN = s.rstN ∧ (s.updateDirect n f).partState = s.partState
      ∧ (s.updateDirect n f).timeBase = s.timeBase ∧ (s.updateDirect n f).windows = s.windows
      ∧ (s.updateDirect n f).queues = s.queues ∧ (s.updateDirect n f).staging = s.staging
      ∧ (s.updateDirect n f).snapshots = s.snapshots ∧ (s.updateDirect n f).snapshotUses = s.snapshotUses
      ∧ (s.updateDirect n f).interlock = s.interlock ∧ (s.updateDirect n f).notice = s.notice
      ∧ (s.updateDirect n f).link = s.link ∧ (s.updateDirect n f).lastResponse = s.lastResponse
      ∧ (s.updateDirect n f).transit = s.transit ∧ (s.updateDirect n f).heldBack = s.heldBack
      ∧ (s.updateDirect n f).pending = s.pending := by
  simp [State.updateDirect]

/-- A DIRECT's taking: the table and its direct list (R82). -/
@[simp] theorem State.takeDirect_frame (n : Initiator) (ws : List WordRef) (a : Addr) (rs : List RecordId) :
    (s.takeDirect n ws a rs).rstN = s.rstN ∧ (s.takeDirect n ws a rs).partState = s.partState
      ∧ (s.takeDirect n ws a rs).timeBase = s.timeBase ∧ (s.takeDirect n ws a rs).windows = s.windows
      ∧ (s.takeDirect n ws a rs).queues = s.queues ∧ (s.takeDirect n ws a rs).staging = s.staging
      ∧ (s.takeDirect n ws a rs).snapshots = s.snapshots
      ∧ (s.takeDirect n ws a rs).snapshotUses = s.snapshotUses ∧ (s.takeDirect n ws a rs).notice = s.notice
      ∧ (s.takeDirect n ws a rs).link = s.link ∧ (s.takeDirect n ws a rs).lastResponse = s.lastResponse
      ∧ (s.takeDirect n ws a rs).transit = s.transit ∧ (s.takeDirect n ws a rs).heldBack = s.heldBack
      ∧ (s.takeDirect n ws a rs).pending = s.pending := by
  simp [State.takeDirect]

/-- A taking changes no queue, snapshot, class or time (R70). -/
@[simp] theorem State.take_frame (o : OpOwner) (rs : List RecordId) :
    (s.take o rs).rstN = s.rstN ∧ (s.take o rs).partState = s.partState ∧ (s.take o rs).timeBase = s.timeBase
      ∧ (s.take o rs).queues = s.queues ∧ (s.take o rs).snapshots = s.snapshots
      ∧ (s.take o rs).snapshotUses = s.snapshotUses ∧ (s.take o rs).notice = s.notice
      ∧ (s.take o rs).link = s.link ∧ (s.take o rs).lastResponse = s.lastResponse
      ∧ (s.take o rs).transit = s.transit ∧ (s.take o rs).heldBack = s.heldBack
      ∧ (s.take o rs).pending = s.pending := by
  unfold State.take; (repeat' split) <;> simp

/-- The wait list belongs to the interlock (R69). -/
@[simp] theorem State.setWaitList_frame (l : List WaitItem) :
    (s.setWaitList l).rstN = s.rstN ∧ (s.setWaitList l).partState = s.partState
      ∧ (s.setWaitList l).timeBase = s.timeBase ∧ (s.setWaitList l).windows = s.windows
      ∧ (s.setWaitList l).queues = s.queues ∧ (s.setWaitList l).staging = s.staging
      ∧ (s.setWaitList l).snapshots = s.snapshots ∧ (s.setWaitList l).snapshotUses = s.snapshotUses
      ∧ (s.setWaitList l).port = s.port ∧ (s.setWaitList l).notice = s.notice ∧ (s.setWaitList l).link = s.link
      ∧ (s.setWaitList l).lastResponse = s.lastResponse ∧ (s.setWaitList l).transit = s.transit
      ∧ (s.setWaitList l).heldBack = s.heldBack ∧ (s.setWaitList l).pending = s.pending := by
  simp [State.setWaitList]

/-- An arrival changes no queue, snapshot, class or time (R70). -/
@[simp] theorem State.arrive_frame (o : OpOwner) (rs : List RecordId) :
    (s.arrive o rs).rstN = s.rstN ∧ (s.arrive o rs).partState = s.partState
      ∧ (s.arrive o rs).timeBase = s.timeBase ∧ (s.arrive o rs).queues = s.queues
      ∧ (s.arrive o rs).snapshots = s.snapshots ∧ (s.arrive o rs).snapshotUses = s.snapshotUses
      ∧ (s.arrive o rs).notice = s.notice ∧ (s.arrive o rs).link = s.link
      ∧ (s.arrive o rs).lastResponse = s.lastResponse ∧ (s.arrive o rs).transit = s.transit
      ∧ (s.arrive o rs).heldBack = s.heldBack ∧ (s.arrive o rs).pending = s.pending := by
  unfold State.arrive; (repeat' split) <;> simp

/-- A scan changes no queue, snapshot, class or time (R71). -/
@[simp] theorem State.scanFrom_frame (p l : List WaitItem) :
    (s.scanFrom p l).rstN = s.rstN ∧ (s.scanFrom p l).partState = s.partState
      ∧ (s.scanFrom p l).timeBase = s.timeBase ∧ (s.scanFrom p l).queues = s.queues
      ∧ (s.scanFrom p l).snapshots = s.snapshots ∧ (s.scanFrom p l).snapshotUses = s.snapshotUses
      ∧ (s.scanFrom p l).notice = s.notice ∧ (s.scanFrom p l).link = s.link
      ∧ (s.scanFrom p l).lastResponse = s.lastResponse ∧ (s.scanFrom p l).transit = s.transit
      ∧ (s.scanFrom p l).heldBack = s.heldBack ∧ (s.scanFrom p l).pending = s.pending := by
  induction l generalizing s p with
  | nil => simp [State.scanFrom]
  | cons x l ih => unfold State.scanFrom; (repeat' split) <;> simp [ih]

/-- A scan changes no queue, snapshot, class or time (R71). -/
@[simp] theorem State.scan_frame :
    s.scan.rstN = s.rstN ∧ s.scan.partState = s.partState ∧ s.scan.timeBase = s.timeBase
      ∧ s.scan.queues = s.queues ∧ s.scan.snapshots = s.snapshots ∧ s.scan.snapshotUses = s.snapshotUses
      ∧ s.scan.notice = s.notice ∧ s.scan.link = s.link ∧ s.scan.lastResponse = s.lastResponse
      ∧ s.scan.transit = s.transit ∧ s.scan.heldBack = s.heldBack ∧ s.scan.pending = s.pending := by
  simp [State.scan]

/-- A release, with its scan (R73). -/
@[simp] theorem State.release_frame (id : Fin 8) :
    (s.release id).rstN = s.rstN ∧ (s.release id).partState = s.partState
      ∧ (s.release id).timeBase = s.timeBase ∧ (s.release id).queues = s.queues
      ∧ (s.release id).snapshots = s.snapshots ∧ (s.release id).snapshotUses = s.snapshotUses
      ∧ (s.release id).notice = s.notice ∧ (s.release id).link = s.link
      ∧ (s.release id).lastResponse = s.lastResponse ∧ (s.release id).transit = s.transit
      ∧ (s.release id).heldBack = s.heldBack ∧ (s.release id).pending = s.pending := by
  simp [State.release]

/-- A LOAD given up, with the scan of a withdrawal (R74, R105). -/
@[simp] theorem State.giveUpLoad_frame (slot : Fin 24) :
    (s.giveUpLoad slot).rstN = s.rstN ∧ (s.giveUpLoad slot).partState = s.partState
      ∧ (s.giveUpLoad slot).timeBase = s.timeBase ∧ (s.giveUpLoad slot).queues = s.queues
      ∧ (s.giveUpLoad slot).snapshots = s.snapshots ∧ (s.giveUpLoad slot).snapshotUses = s.snapshotUses
      ∧ (s.giveUpLoad slot).notice = s.notice ∧ (s.giveUpLoad slot).link = s.link
      ∧ (s.giveUpLoad slot).lastResponse = s.lastResponse ∧ (s.giveUpLoad slot).transit = s.transit
      ∧ (s.giveUpLoad slot).heldBack = s.heldBack ∧ (s.giveUpLoad slot).pending = s.pending := by
  unfold State.giveUpLoad; (repeat' split) <;> simp

/-- The freeing of a snapshot slot (R89). -/
@[simp] theorem State.freeSnapshot_frame (slot : Fin 24) (m : Moment) :
    (s.freeSnapshot slot m).rstN = s.rstN ∧ (s.freeSnapshot slot m).partState = s.partState
      ∧ (s.freeSnapshot slot m).timeBase = s.timeBase ∧ (s.freeSnapshot slot m).snapshotUses = s.snapshotUses
      ∧ (s.freeSnapshot slot m).notice = s.notice ∧ (s.freeSnapshot slot m).link = s.link
      ∧ (s.freeSnapshot slot m).lastResponse = s.lastResponse ∧ (s.freeSnapshot slot m).heldBack = s.heldBack
      ∧ (s.freeSnapshot slot m).pending = s.pending := by
  unfold State.freeSnapshot; (repeat' split) <;> simp

/-- A re-routed group arrives (R94). -/
@[simp] theorem State.arriveRerouted_frame (i : SnapshotInfo) (g : List WaitingWord) :
    (s.arriveRerouted i g).rstN = s.rstN ∧ (s.arriveRerouted i g).partState = s.partState
      ∧ (s.arriveRerouted i g).timeBase = s.timeBase ∧ (s.arriveRerouted i g).queues = s.queues
      ∧ (s.arriveRerouted i g).snapshots = s.snapshots ∧ (s.arriveRerouted i g).snapshotUses = s.snapshotUses
      ∧ (s.arriveRerouted i g).notice = s.notice ∧ (s.arriveRerouted i g).link = s.link
      ∧ (s.arriveRerouted i g).lastResponse = s.lastResponse ∧ (s.arriveRerouted i g).transit = s.transit
      ∧ (s.arriveRerouted i g).heldBack = s.heldBack ∧ (s.arriveRerouted i g).pending = s.pending := by
  simp [State.arriveRerouted]

/-- Re-routed groups arrive (R94). -/
@[simp] theorem State.arriveEach_frame (i : SnapshotInfo) (gs : List (List WaitingWord)) :
    (s.arriveEach i gs).rstN = s.rstN ∧ (s.arriveEach i gs).partState = s.partState
      ∧ (s.arriveEach i gs).timeBase = s.timeBase ∧ (s.arriveEach i gs).queues = s.queues
      ∧ (s.arriveEach i gs).snapshots = s.snapshots ∧ (s.arriveEach i gs).snapshotUses = s.snapshotUses
      ∧ (s.arriveEach i gs).notice = s.notice ∧ (s.arriveEach i gs).link = s.link
      ∧ (s.arriveEach i gs).lastResponse = s.lastResponse ∧ (s.arriveEach i gs).transit = s.transit
      ∧ (s.arriveEach i gs).heldBack = s.heldBack ∧ (s.arriveEach i gs).pending = s.pending := by
  induction gs generalizing s with
  | nil => simp [State.arriveEach]
  | cons g gs ih => simp [State.arriveEach, ih]

/-- A slot released by a latch (R94). -/
@[simp] theorem State.releaseByLatch_frame (slot : Fin 24) (m : Moment) :
    (s.releaseByLatch slot m).rstN = s.rstN ∧ (s.releaseByLatch slot m).partState = s.partState
      ∧ (s.releaseByLatch slot m).timeBase = s.timeBase
      ∧ (s.releaseByLatch slot m).snapshotUses = s.snapshotUses ∧ (s.releaseByLatch slot m).notice = s.notice
      ∧ (s.releaseByLatch slot m).link = s.link ∧ (s.releaseByLatch slot m).lastResponse = s.lastResponse
      ∧ (s.releaseByLatch slot m).heldBack = s.heldBack ∧ (s.releaseByLatch slot m).pending = s.pending := by
  unfold State.releaseByLatch; (repeat' split) <;> simp

/-- A run's hand-over (R5, R6). -/
@[simp] theorem State.handOverRun_frame (n : Initiator) (tag : Fin 4) :
    (s.handOverRun n tag).rstN = s.rstN ∧ (s.handOverRun n tag).partState = s.partState
      ∧ (s.handOverRun n tag).timeBase = s.timeBase ∧ (s.handOverRun n tag).snapshots = s.snapshots
      ∧ (s.handOverRun n tag).snapshotUses = s.snapshotUses ∧ (s.handOverRun n tag).notice = s.notice
      ∧ (s.handOverRun n tag).link = s.link ∧ (s.handOverRun n tag).lastResponse = s.lastResponse
      ∧ (s.handOverRun n tag).transit = s.transit ∧ (s.handOverRun n tag).heldBack = s.heldBack
      ∧ (s.handOverRun n tag).pending = s.pending := by
  unfold State.handOverRun; (repeat' split) <;> simp

/-- A hand-over taken (R182). -/
@[simp] theorem State.takeHandOver_frame (h : HandOver) :
    (s.takeHandOver h).rstN = s.rstN ∧ (s.takeHandOver h).partState = s.partState
      ∧ (s.takeHandOver h).timeBase = s.timeBase ∧ (s.takeHandOver h).snapshots = s.snapshots
      ∧ (s.takeHandOver h).snapshotUses = s.snapshotUses ∧ (s.takeHandOver h).link = s.link
      ∧ (s.takeHandOver h).lastResponse = s.lastResponse ∧ (s.takeHandOver h).heldBack = s.heldBack
      ∧ (s.takeHandOver h).pending = s.pending := by
  unfold State.takeHandOver; split <;> simp

/-- Hand-overs taken (R182). -/
@[simp] theorem State.takeHandOvers_frame (l : List HandOver) :
    (s.takeHandOvers l).rstN = s.rstN ∧ (s.takeHandOvers l).partState = s.partState
      ∧ (s.takeHandOvers l).timeBase = s.timeBase ∧ (s.takeHandOvers l).snapshots = s.snapshots
      ∧ (s.takeHandOvers l).snapshotUses = s.snapshotUses ∧ (s.takeHandOvers l).link = s.link
      ∧ (s.takeHandOvers l).lastResponse = s.lastResponse ∧ (s.takeHandOvers l).heldBack = s.heldBack
      ∧ (s.takeHandOvers l).pending = s.pending := by
  induction l generalizing s with
  | nil => simp [State.takeHandOvers]
  | cons h l ih => simp [State.takeHandOvers, ih]

/-- The hand-overs in transit are taken (R182). -/
@[simp] theorem State.takeTransit_frame :
    s.takeTransit.rstN = s.rstN ∧ s.takeTransit.partState = s.partState ∧ s.takeTransit.timeBase = s.timeBase
      ∧ s.takeTransit.snapshots = s.snapshots ∧ s.takeTransit.snapshotUses = s.snapshotUses
      ∧ s.takeTransit.link = s.link ∧ s.takeTransit.lastResponse = s.lastResponse
      ∧ s.takeTransit.heldBack = s.heldBack ∧ s.takeTransit.pending = s.pending := by
  simp [State.takeTransit]

/-- The oldest hand-over is taken, or all are held back (log 8). -/
@[simp] theorem State.takeOldest_frame :
    s.takeOldest.rstN = s.rstN ∧ s.takeOldest.partState = s.partState ∧ s.takeOldest.timeBase = s.timeBase
      ∧ s.takeOldest.snapshots = s.snapshots ∧ s.takeOldest.snapshotUses = s.snapshotUses
      ∧ s.takeOldest.link = s.link ∧ s.takeOldest.lastResponse = s.lastResponse
      ∧ s.takeOldest.pending = s.pending := by
  unfold State.takeOldest; (repeat' split) <;> simp

/-- A stored word: its slot, its entry, and the commit that may arrive (R48, R49). -/
@[simp] theorem State.storeWord_frame (ref : WordRef) (slot : Fin 16) (g : Gather) (t : Timer) (o : Nat) (d : Word) :
    (s.storeWord ref slot g t o d).rstN = s.rstN ∧ (s.storeWord ref slot g t o d).partState = s.partState
      ∧ (s.storeWord ref slot g t o d).timeBase = s.timeBase
      ∧ (s.storeWord ref slot g t o d).snapshots = s.snapshots
      ∧ (s.storeWord ref slot g t o d).snapshotUses = s.snapshotUses
      ∧ (s.storeWord ref slot g t o d).notice = s.notice ∧ (s.storeWord ref slot g t o d).link = s.link
      ∧ (s.storeWord ref slot g t o d).lastResponse = s.lastResponse
      ∧ (s.storeWord ref slot g t o d).transit = s.transit
      ∧ (s.storeWord ref slot g t o d).heldBack = s.heldBack
      ∧ (s.storeWord ref slot g t o d).pending = s.pending := by
  simp only [State.storeWord]; split <;> simp

/-- A served word changes its snapshot slot (R91). -/
@[simp] theorem State.markServed_frame (slot : Fin 24) (o : Nat) (m : Moment) :
    (s.markServed slot o m).rstN = s.rstN ∧ (s.markServed slot o m).partState = s.partState
      ∧ (s.markServed slot o m).timeBase = s.timeBase ∧ (s.markServed slot o m).windows = s.windows
      ∧ (s.markServed slot o m).queues = s.queues ∧ (s.markServed slot o m).staging = s.staging
      ∧ (s.markServed slot o m).interlock = s.interlock ∧ (s.markServed slot o m).port = s.port
      ∧ (s.markServed slot o m).notice = s.notice ∧ (s.markServed slot o m).link = s.link
      ∧ (s.markServed slot o m).lastResponse = s.lastResponse ∧ (s.markServed slot o m).transit = s.transit
      ∧ (s.markServed slot o m).heldBack = s.heldBack ∧ (s.markServed slot o m).pending = s.pending := by
  simp [State.markServed]

/-- A slot read to its end may be freed (R106). -/
@[simp] theorem State.releaseIfRead_frame (slot : Fin 24) (m : Moment) :
    (s.releaseIfRead slot m).rstN = s.rstN ∧ (s.releaseIfRead slot m).partState = s.partState
      ∧ (s.releaseIfRead slot m).timeBase = s.timeBase ∧ (s.releaseIfRead slot m).snapshotUses = s.snapshotUses
      ∧ (s.releaseIfRead slot m).notice = s.notice ∧ (s.releaseIfRead slot m).link = s.link
      ∧ (s.releaseIfRead slot m).lastResponse = s.lastResponse ∧ (s.releaseIfRead slot m).heldBack = s.heldBack
      ∧ (s.releaseIfRead slot m).pending = s.pending := by
  unfold State.releaseIfRead; (repeat' split) <;> simp

/-- The releases of a latch (R93). -/
@[simp] theorem State.latchReleases_frame (n : Initiator) (w : WindowId) (m : Moment) :
    (s.latchReleases n w m).rstN = s.rstN ∧ (s.latchReleases n w m).partState = s.partState
      ∧ (s.latchReleases n w m).timeBase = s.timeBase ∧ (s.latchReleases n w m).snapshotUses = s.snapshotUses
      ∧ (s.latchReleases n w m).notice = s.notice ∧ (s.latchReleases n w m).link = s.link
      ∧ (s.latchReleases n w m).lastResponse = s.lastResponse ∧ (s.latchReleases n w m).heldBack = s.heldBack
      ∧ (s.latchReleases n w m).pending = s.pending := by
  unfold State.latchReleases; simp only []; (repeat' split) <;> simp

/-- The taking of a snapshot slot, whose LOAD arrives (R93). -/
@[simp] theorem State.takeSnapshotSlot_frame (ref : WordRef) (r : RecordId) (m : Moment) :
    (s.takeSnapshotSlot ref r m).rstN = s.rstN ∧ (s.takeSnapshotSlot ref r m).partState = s.partState
      ∧ (s.takeSnapshotSlot ref r m).timeBase = s.timeBase ∧ (s.takeSnapshotSlot ref r m).queues = s.queues
      ∧ (s.takeSnapshotSlot ref r m).notice = s.notice ∧ (s.takeSnapshotSlot ref r m).link = s.link
      ∧ (s.takeSnapshotSlot ref r m).lastResponse = s.lastResponse
      ∧ (s.takeSnapshotSlot ref r m).transit = s.transit ∧ (s.takeSnapshotSlot ref r m).heldBack = s.heldBack
      ∧ (s.takeSnapshotSlot ref r m).pending = s.pending := by
  unfold State.takeSnapshotSlot; (repeat' split) <;> simp

/-- The routing of a word touches neither time, part state, link nor the waiting commands (R4). -/
@[simp] theorem State.follow_frame (ref : WordRef) (p : Path) (m : Moment) :
    (s.follow ref p m).rstN = s.rstN ∧ (s.follow ref p m).partState = s.partState
      ∧ (s.follow ref p m).timeBase = s.timeBase ∧ (s.follow ref p m).notice = s.notice
      ∧ (s.follow ref p m).link = s.link ∧ (s.follow ref p m).lastResponse = s.lastResponse
      ∧ (s.follow ref p m).heldBack = s.heldBack ∧ (s.follow ref p m).pending = s.pending := by
  unfold State.follow; (repeat' split) <;> simp

/-- The end of an entry's routing (R3, R5, R6). -/
@[simp] theorem State.endRouting_frame (n : Initiator) (tag : Fin 4) (m : Moment) :
    (s.endRouting n tag m).rstN = s.rstN ∧ (s.endRouting n tag m).partState = s.partState
      ∧ (s.endRouting n tag m).timeBase = s.timeBase ∧ (s.endRouting n tag m).snapshots = s.snapshots
      ∧ (s.endRouting n tag m).snapshotUses = s.snapshotUses ∧ (s.endRouting n tag m).notice = s.notice
      ∧ (s.endRouting n tag m).link = s.link ∧ (s.endRouting n tag m).lastResponse = s.lastResponse
      ∧ (s.endRouting n tag m).transit = s.transit ∧ (s.endRouting n tag m).heldBack = s.heldBack
      ∧ (s.endRouting n tag m).pending = s.pending := by
  unfold State.endRouting; (repeat' split) <;> simp

/-- The routing of a word touches neither time, part state, link nor the waiting commands (R4). -/
@[simp] theorem State.routeEntry_frame (n : Initiator) (e : Entry) (m : Moment) :
    (s.routeEntry n e m).rstN = s.rstN ∧ (s.routeEntry n e m).partState = s.partState
      ∧ (s.routeEntry n e m).timeBase = s.timeBase ∧ (s.routeEntry n e m).notice = s.notice
      ∧ (s.routeEntry n e m).link = s.link ∧ (s.routeEntry n e m).lastResponse = s.lastResponse
      ∧ (s.routeEntry n e m).heldBack = s.heldBack ∧ (s.routeEntry n e m).pending = s.pending := by
  unfold State.routeEntry; simp only []; split <;> simp

/-- The routing of a queue's next word (R4). -/
@[simp] theorem State.routeNext_frame (n : Initiator) :
    (s.routeNext n).rstN = s.rstN ∧ (s.routeNext n).partState = s.partState
      ∧ (s.routeNext n).timeBase = s.timeBase ∧ (s.routeNext n).notice = s.notice
      ∧ (s.routeNext n).link = s.link ∧ (s.routeNext n).lastResponse = s.lastResponse
      ∧ (s.routeNext n).heldBack = s.heldBack ∧ (s.routeNext n).pending = s.pending := by
  unfold State.routeNext; (repeat' split) <;> simp

/-- A restart (R10). -/
@[simp] theorem State.restartHeld_frame (n : Initiator) :
    (s.restartHeld n).rstN = s.rstN ∧ (s.restartHeld n).partState = s.partState
      ∧ (s.restartHeld n).timeBase = s.timeBase ∧ (s.restartHeld n).notice = s.notice
      ∧ (s.restartHeld n).link = s.link ∧ (s.restartHeld n).lastResponse = s.lastResponse
      ∧ (s.restartHeld n).heldBack = s.heldBack ∧ (s.restartHeld n).pending = s.pending := by
  unfold State.restartHeld; (repeat' split) <;> simp

/-- A request taken: its queue and, at the boundary, an event in transit (R1, R2). -/
@[simp] theorem State.takeRequest_frame (n : Initiator) (a : Addr) (t : Transfer) :
    (s.takeRequest n a t).rstN = s.rstN ∧ (s.takeRequest n a t).partState = s.partState
      ∧ (s.takeRequest n a t).timeBase = s.timeBase ∧ (s.takeRequest n a t).windows = s.windows
      ∧ (s.takeRequest n a t).staging = s.staging ∧ (s.takeRequest n a t).snapshots = s.snapshots
      ∧ (s.takeRequest n a t).snapshotUses = s.snapshotUses ∧ (s.takeRequest n a t).interlock = s.interlock
      ∧ (s.takeRequest n a t).port = s.port ∧ (s.takeRequest n a t).notice = s.notice
      ∧ (s.takeRequest n a t).link = s.link ∧ (s.takeRequest n a t).lastResponse = s.lastResponse
      ∧ (s.takeRequest n a t).heldBack = s.heldBack ∧ (s.takeRequest n a t).pending = s.pending := by
  simp only [State.takeRequest]; split <;> simp

/-- An expired hold: its queue, and its event in transit (R12). -/
@[simp] theorem State.expireHold_frame (n : Initiator) (e : Entry) (h : Hold) (c : Tick) :
    (s.expireHold n e h c).rstN = s.rstN ∧ (s.expireHold n e h c).partState = s.partState
      ∧ (s.expireHold n e h c).timeBase = s.timeBase ∧ (s.expireHold n e h c).windows = s.windows
      ∧ (s.expireHold n e h c).staging = s.staging ∧ (s.expireHold n e h c).snapshots = s.snapshots
      ∧ (s.expireHold n e h c).snapshotUses = s.snapshotUses ∧ (s.expireHold n e h c).interlock = s.interlock
      ∧ (s.expireHold n e h c).port = s.port ∧ (s.expireHold n e h c).notice = s.notice
      ∧ (s.expireHold n e h c).link = s.link ∧ (s.expireHold n e h c).lastResponse = s.lastResponse
      ∧ (s.expireHold n e h c).heldBack = s.heldBack ∧ (s.expireHold n e h c).pending = s.pending := by
  simp [State.expireHold]

/-- The expiry of a hold (R12). -/
@[simp] theorem State.holdTimeout_frame (n : Initiator) :
    (s.holdTimeout n).rstN = s.rstN ∧ (s.holdTimeout n).partState = s.partState
      ∧ (s.holdTimeout n).timeBase = s.timeBase ∧ (s.holdTimeout n).windows = s.windows
      ∧ (s.holdTimeout n).staging = s.staging ∧ (s.holdTimeout n).snapshots = s.snapshots
      ∧ (s.holdTimeout n).snapshotUses = s.snapshotUses ∧ (s.holdTimeout n).interlock = s.interlock
      ∧ (s.holdTimeout n).port = s.port ∧ (s.holdTimeout n).notice = s.notice ∧ (s.holdTimeout n).link = s.link
      ∧ (s.holdTimeout n).lastResponse = s.lastResponse ∧ (s.holdTimeout n).heldBack = s.heldBack
      ∧ (s.holdTimeout n).pending = s.pending := by
  unfold State.holdTimeout; (repeat' split) <;> simp

/-- A response that leaves (R15). -/
@[simp] theorem State.returnHead_frame (n : Initiator) :
    (s.returnHead n).rstN = s.rstN ∧ (s.returnHead n).partState = s.partState
      ∧ (s.returnHead n).timeBase = s.timeBase ∧ (s.returnHead n).windows = s.windows
      ∧ (s.returnHead n).staging = s.staging ∧ (s.returnHead n).snapshots = s.snapshots
      ∧ (s.returnHead n).snapshotUses = s.snapshotUses ∧ (s.returnHead n).interlock = s.interlock
      ∧ (s.returnHead n).port = s.port ∧ (s.returnHead n).notice = s.notice ∧ (s.returnHead n).link = s.link
      ∧ (s.returnHead n).transit = s.transit ∧ (s.returnHead n).heldBack = s.heldBack
      ∧ (s.returnHead n).pending = s.pending := by
  unfold State.returnHead; (repeat' split) <;> simp

/-- A tick close changes timers and the time base (R166). -/
@[simp] theorem State.closeTick_frame :
    s.closeTick.rstN = s.rstN ∧ s.closeTick.partState = s.partState ∧ s.closeTick.windows = s.windows
      ∧ s.closeTick.snapshotUses = s.snapshotUses ∧ s.closeTick.interlock = s.interlock
      ∧ s.closeTick.port = s.port ∧ s.closeTick.notice = s.notice ∧ s.closeTick.link = s.link
      ∧ s.closeTick.lastResponse = s.lastResponse ∧ s.closeTick.transit = s.transit
      ∧ s.closeTick.heldBack = s.heldBack ∧ s.closeTick.pending = s.pending := by
  simp [State.closeTick]

/-- A CLK period changes timers and the time base, and takes what is in transit (R167). -/
@[simp] theorem State.clkPeriod_frame :
    s.clkPeriod.rstN = s.rstN ∧ s.clkPeriod.partState = s.partState ∧ s.clkPeriod.snapshotUses = s.snapshotUses
      ∧ s.clkPeriod.link = s.link ∧ s.clkPeriod.lastResponse = s.lastResponse ∧ s.clkPeriod.pending = s.pending := by
  unfold State.clkPeriod State.event; split
  · split
    · simp only [State.overtake]; split <;> simp
    · simp only []; split <;> simp
  · simp

/-- An abandonment: ABANDONED, and the slot's freeing (R58). -/
@[simp] theorem State.abandon_frame (slot : Fin 16) (m : Moment) :
    (s.abandon slot m).rstN = s.rstN ∧ (s.abandon slot m).partState = s.partState
      ∧ (s.abandon slot m).timeBase = s.timeBase ∧ (s.abandon slot m).windows = s.windows
      ∧ (s.abandon slot m).snapshots = s.snapshots ∧ (s.abandon slot m).snapshotUses = s.snapshotUses
      ∧ (s.abandon slot m).interlock = s.interlock ∧ (s.abandon slot m).port = s.port
      ∧ (s.abandon slot m).notice = s.notice ∧ (s.abandon slot m).link = s.link
      ∧ (s.abandon slot m).lastResponse = s.lastResponse ∧ (s.abandon slot m).heldBack = s.heldBack
      ∧ (s.abandon slot m).pending = s.pending := by
  unfold State.abandon; (repeat' split) <;> simp

/-- Abandonments of a flush (R60). -/
@[simp] theorem State.abandonEach_frame (l : List (Fin 16)) (m : Moment) :
    (s.abandonEach l m).rstN = s.rstN ∧ (s.abandonEach l m).partState = s.partState
      ∧ (s.abandonEach l m).timeBase = s.timeBase ∧ (s.abandonEach l m).windows = s.windows
      ∧ (s.abandonEach l m).snapshots = s.snapshots ∧ (s.abandonEach l m).snapshotUses = s.snapshotUses
      ∧ (s.abandonEach l m).interlock = s.interlock ∧ (s.abandonEach l m).port = s.port
      ∧ (s.abandonEach l m).notice = s.notice ∧ (s.abandonEach l m).link = s.link
      ∧ (s.abandonEach l m).lastResponse = s.lastResponse ∧ (s.abandonEach l m).heldBack = s.heldBack
      ∧ (s.abandonEach l m).pending = s.pending := by
  induction l generalizing s with
  | nil => simp [State.abandonEach]
  | cons i l ih => simp [State.abandonEach, ih]

/-- The expiry of a FILLING slot (R58). -/
@[simp] theorem State.gatherExpiry_frame (slot : Fin 16) :
    (s.gatherExpiry slot).rstN = s.rstN ∧ (s.gatherExpiry slot).partState = s.partState
      ∧ (s.gatherExpiry slot).timeBase = s.timeBase ∧ (s.gatherExpiry slot).windows = s.windows
      ∧ (s.gatherExpiry slot).snapshots = s.snapshots ∧ (s.gatherExpiry slot).snapshotUses = s.snapshotUses
      ∧ (s.gatherExpiry slot).interlock = s.interlock ∧ (s.gatherExpiry slot).port = s.port
      ∧ (s.gatherExpiry slot).notice = s.notice ∧ (s.gatherExpiry slot).link = s.link
      ∧ (s.gatherExpiry slot).lastResponse = s.lastResponse ∧ (s.gatherExpiry slot).heldBack = s.heldBack
      ∧ (s.gatherExpiry slot).pending = s.pending := by
  unfold State.gatherExpiry; (repeat' split) <;> simp

/-- The expiry of a HELD slot (R107). -/
@[simp] theorem State.snapshotExpiry_frame (slot : Fin 24) :
    (s.snapshotExpiry slot).rstN = s.rstN ∧ (s.snapshotExpiry slot).partState = s.partState
      ∧ (s.snapshotExpiry slot).timeBase = s.timeBase ∧ (s.snapshotExpiry slot).snapshotUses = s.snapshotUses
      ∧ (s.snapshotExpiry slot).notice = s.notice ∧ (s.snapshotExpiry slot).link = s.link
      ∧ (s.snapshotExpiry slot).lastResponse = s.lastResponse ∧ (s.snapshotExpiry slot).heldBack = s.heldBack
      ∧ (s.snapshotExpiry slot).pending = s.pending := by
  unfold State.snapshotExpiry; (repeat' split) <;> simp

/-- An issue appends to the outstanding list (R127). -/
@[simp] theorem State.issue_frame (q : Requester) (b : Burst) (o : BurstOwner) :
    (s.issue q b o).rstN = s.rstN ∧ (s.issue q b o).partState = s.partState
      ∧ (s.issue q b o).timeBase = s.timeBase ∧ (s.issue q b o).windows = s.windows
      ∧ (s.issue q b o).queues = s.queues ∧ (s.issue q b o).staging = s.staging
      ∧ (s.issue q b o).snapshots = s.snapshots ∧ (s.issue q b o).snapshotUses = s.snapshotUses
      ∧ (s.issue q b o).interlock = s.interlock ∧ (s.issue q b o).notice = s.notice
      ∧ (s.issue q b o).link = s.link ∧ (s.issue q b o).lastResponse = s.lastResponse
      ∧ (s.issue q b o).transit = s.transit ∧ (s.issue q b o).heldBack = s.heldBack
      ∧ (s.issue q b o).pending = s.pending := by
  simp [State.issue]

/-- A reservation's burst is issued (R68). -/
@[simp] theorem State.issueReservation_frame (q : Requester) (r : Reservation) :
    (s.issueReservation q r).rstN = s.rstN ∧ (s.issueReservation q r).partState = s.partState
      ∧ (s.issueReservation q r).timeBase = s.timeBase ∧ (s.issueReservation q r).windows = s.windows
      ∧ (s.issueReservation q r).queues = s.queues ∧ (s.issueReservation q r).staging = s.staging
      ∧ (s.issueReservation q r).snapshots = s.snapshots
      ∧ (s.issueReservation q r).snapshotUses = s.snapshotUses ∧ (s.issueReservation q r).notice = s.notice
      ∧ (s.issueReservation q r).link = s.link ∧ (s.issueReservation q r).lastResponse = s.lastResponse
      ∧ (s.issueReservation q r).transit = s.transit ∧ (s.issueReservation q r).heldBack = s.heldBack
      ∧ (s.issueReservation q r).pending = s.pending := by
  simp [State.issueReservation]

/-- A pass-through burst is issued, and the observer may see it (R138). -/
@[simp] theorem State.issuePassThrough_frame (b : Burst) (refs : List WordRef) :
    (s.issuePassThrough b refs).rstN = s.rstN ∧ (s.issuePassThrough b refs).partState = s.partState
      ∧ (s.issuePassThrough b refs).timeBase = s.timeBase ∧ (s.issuePassThrough b refs).windows = s.windows
      ∧ (s.issuePassThrough b refs).queues = s.queues ∧ (s.issuePassThrough b refs).staging = s.staging
      ∧ (s.issuePassThrough b refs).snapshots = s.snapshots
      ∧ (s.issuePassThrough b refs).snapshotUses = s.snapshotUses
      ∧ (s.issuePassThrough b refs).interlock = s.interlock ∧ (s.issuePassThrough b refs).link = s.link
      ∧ (s.issuePassThrough b refs).lastResponse = s.lastResponse
      ∧ (s.issuePassThrough b refs).transit = s.transit ∧ (s.issuePassThrough b refs).heldBack = s.heldBack
      ∧ (s.issuePassThrough b refs).pending = s.pending := by
  unfold State.issuePassThrough; simp only []; split <;> simp

/-- A DIRECT grant (R131). -/
@[simp] theorem State.issueDirect_frame :
    s.issueDirect.rstN = s.rstN ∧ s.issueDirect.partState = s.partState ∧ s.issueDirect.timeBase = s.timeBase
      ∧ s.issueDirect.windows = s.windows ∧ s.issueDirect.queues = s.queues ∧ s.issueDirect.staging = s.staging
      ∧ s.issueDirect.snapshots = s.snapshots ∧ s.issueDirect.snapshotUses = s.snapshotUses
      ∧ s.issueDirect.link = s.link ∧ s.issueDirect.lastResponse = s.lastResponse
      ∧ s.issueDirect.transit = s.transit ∧ s.issueDirect.heldBack = s.heldBack
      ∧ s.issueDirect.pending = s.pending := by
  unfold State.issueDirect; (repeat' split) <;> simp; (repeat' split) <;> simp

/-- The notice writer's test changes the notice unit alone (R150). -/
@[simp] theorem State.writerTest_frame :
    s.writerTest.rstN = s.rstN ∧ s.writerTest.partState = s.partState ∧ s.writerTest.timeBase = s.timeBase
      ∧ s.writerTest.windows = s.windows ∧ s.writerTest.queues = s.queues ∧ s.writerTest.staging = s.staging
      ∧ s.writerTest.snapshots = s.snapshots ∧ s.writerTest.snapshotUses = s.snapshotUses
      ∧ s.writerTest.interlock = s.interlock ∧ s.writerTest.port = s.port ∧ s.writerTest.link = s.link
      ∧ s.writerTest.lastResponse = s.lastResponse ∧ s.writerTest.transit = s.transit
      ∧ s.writerTest.heldBack = s.heldBack ∧ s.writerTest.pending = s.pending := by
  unfold State.writerTest; (repeat' split) <;> simp

/-- A COMMIT grant (R132). -/
@[simp] theorem State.issueCommit_frame :
    s.issueCommit.rstN = s.rstN ∧ s.issueCommit.partState = s.partState ∧ s.issueCommit.timeBase = s.timeBase
      ∧ s.issueCommit.windows = s.windows ∧ s.issueCommit.queues = s.queues ∧ s.issueCommit.staging = s.staging
      ∧ s.issueCommit.snapshots = s.snapshots ∧ s.issueCommit.snapshotUses = s.snapshotUses
      ∧ s.issueCommit.notice = s.notice ∧ s.issueCommit.link = s.link
      ∧ s.issueCommit.lastResponse = s.lastResponse ∧ s.issueCommit.transit = s.transit
      ∧ s.issueCommit.heldBack = s.heldBack ∧ s.issueCommit.pending = s.pending := by
  unfold State.issueCommit; (repeat' split) <;> simp

/-- A LOAD grant (R133). -/
@[simp] theorem State.issueLoad_frame :
    s.issueLoad.rstN = s.rstN ∧ s.issueLoad.partState = s.partState ∧ s.issueLoad.timeBase = s.timeBase
      ∧ s.issueLoad.windows = s.windows ∧ s.issueLoad.queues = s.queues ∧ s.issueLoad.staging = s.staging
      ∧ s.issueLoad.snapshots = s.snapshots ∧ s.issueLoad.snapshotUses = s.snapshotUses
      ∧ s.issueLoad.notice = s.notice ∧ s.issueLoad.link = s.link ∧ s.issueLoad.lastResponse = s.lastResponse
      ∧ s.issueLoad.transit = s.transit ∧ s.issueLoad.heldBack = s.heldBack ∧ s.issueLoad.pending = s.pending := by
  unfold State.issueLoad; (repeat' split) <;> simp

/-- A NOTICE grant (R134). -/
@[simp] theorem State.issueNotice_frame :
    s.issueNotice.rstN = s.rstN ∧ s.issueNotice.partState = s.partState ∧ s.issueNotice.timeBase = s.timeBase
      ∧ s.issueNotice.windows = s.windows ∧ s.issueNotice.queues = s.queues ∧ s.issueNotice.staging = s.staging
      ∧ s.issueNotice.snapshots = s.snapshots ∧ s.issueNotice.snapshotUses = s.snapshotUses
      ∧ s.issueNotice.interlock = s.interlock ∧ s.issueNotice.link = s.link
      ∧ s.issueNotice.lastResponse = s.lastResponse ∧ s.issueNotice.transit = s.transit
      ∧ s.issueNotice.heldBack = s.heldBack ∧ s.issueNotice.pending = s.pending := by
  unfold State.issueNotice; (repeat' split) <;> simp

/-- An issue of the granted requester (R131 to R134). -/
@[simp] theorem State.issueFrom_frame (q : Requester) :
    (s.issueFrom q).rstN = s.rstN ∧ (s.issueFrom q).partState = s.partState
      ∧ (s.issueFrom q).timeBase = s.timeBase ∧ (s.issueFrom q).windows = s.windows
      ∧ (s.issueFrom q).queues = s.queues ∧ (s.issueFrom q).staging = s.staging
      ∧ (s.issueFrom q).snapshots = s.snapshots ∧ (s.issueFrom q).snapshotUses = s.snapshotUses
      ∧ (s.issueFrom q).link = s.link ∧ (s.issueFrom q).lastResponse = s.lastResponse
      ∧ (s.issueFrom q).transit = s.transit ∧ (s.issueFrom q).heldBack = s.heldBack
      ∧ (s.issueFrom q).pending = s.pending := by
  cases q <;> simp [State.issueFrom]

/-- A grant (R136). -/
@[simp] theorem State.grant_frame :
    s.grant.rstN = s.rstN ∧ s.grant.partState = s.partState ∧ s.grant.timeBase = s.timeBase
      ∧ s.grant.windows = s.windows ∧ s.grant.queues = s.queues ∧ s.grant.staging = s.staging
      ∧ s.grant.snapshots = s.snapshots ∧ s.grant.snapshotUses = s.snapshotUses ∧ s.grant.link = s.link
      ∧ s.grant.lastResponse = s.lastResponse ∧ s.grant.transit = s.transit ∧ s.grant.heldBack = s.heldBack
      ∧ s.grant.pending = s.pending := by
  unfold State.grant; (repeat' split) <;> simp

/-- A commit's completion at the window table (R40). -/
@[simp] theorem State.completeCommit_frame (g : Gather) (q : BitVec 32) (t : Tick) :
    (s.completeCommit g q t).rstN = s.rstN ∧ (s.completeCommit g q t).partState = s.partState
      ∧ (s.completeCommit g q t).timeBase = s.timeBase ∧ (s.completeCommit g q t).queues = s.queues
      ∧ (s.completeCommit g q t).staging = s.staging ∧ (s.completeCommit g q t).snapshots = s.snapshots
      ∧ (s.completeCommit g q t).snapshotUses = s.snapshotUses
      ∧ (s.completeCommit g q t).interlock = s.interlock ∧ (s.completeCommit g q t).port = s.port
      ∧ (s.completeCommit g q t).notice = s.notice ∧ (s.completeCommit g q t).link = s.link
      ∧ (s.completeCommit g q t).lastResponse = s.lastResponse ∧ (s.completeCommit g q t).heldBack = s.heldBack
      ∧ (s.completeCommit g q t).pending = s.pending := by
  simp only [State.completeCommit]; split <;> simp

/-- A commit that succeeds (R78). -/
@[simp] theorem State.commitSucceeds_frame (id : Fin 8) (slot : Fin 16) (g : Gather) (i : CommitInfo) :
    (s.commitSucceeds id slot g i).rstN = s.rstN ∧ (s.commitSucceeds id slot g i).partState = s.partState
      ∧ (s.commitSucceeds id slot g i).timeBase = s.timeBase
      ∧ (s.commitSucceeds id slot g i).snapshots = s.snapshots
      ∧ (s.commitSucceeds id slot g i).snapshotUses = s.snapshotUses
      ∧ (s.commitSucceeds id slot g i).interlock = s.interlock ∧ (s.commitSucceeds id slot g i).port = s.port
      ∧ (s.commitSucceeds id slot g i).notice = s.notice ∧ (s.commitSucceeds id slot g i).link = s.link
      ∧ (s.commitSucceeds id slot g i).lastResponse = s.lastResponse
      ∧ (s.commitSucceeds id slot g i).heldBack = s.heldBack
      ∧ (s.commitSucceeds id slot g i).pending = s.pending := by
  simp [State.commitSucceeds]

/-- A commit that fails (R79). -/
@[simp] theorem State.commitFails_frame (id : Fin 8) (slot : Fin 16) (g : Gather) (i : CommitInfo) :
    (s.commitFails id slot g i).rstN = s.rstN ∧ (s.commitFails id slot g i).partState = s.partState
      ∧ (s.commitFails id slot g i).timeBase = s.timeBase ∧ (s.commitFails id slot g i).windows = s.windows
      ∧ (s.commitFails id slot g i).snapshots = s.snapshots
      ∧ (s.commitFails id slot g i).snapshotUses = s.snapshotUses
      ∧ (s.commitFails id slot g i).interlock = s.interlock ∧ (s.commitFails id slot g i).port = s.port
      ∧ (s.commitFails id slot g i).notice = s.notice ∧ (s.commitFails id slot g i).link = s.link
      ∧ (s.commitFails id slot g i).lastResponse = s.lastResponse
      ∧ (s.commitFails id slot g i).heldBack = s.heldBack ∧ (s.commitFails id slot g i).pending = s.pending := by
  simp [State.commitFails]

/-- A burst is requested again (R77). -/
@[simp] theorem State.requestAgain_frame (id : Fin 8) :
    (s.requestAgain id).rstN = s.rstN ∧ (s.requestAgain id).partState = s.partState
      ∧ (s.requestAgain id).timeBase = s.timeBase ∧ (s.requestAgain id).windows = s.windows
      ∧ (s.requestAgain id).queues = s.queues ∧ (s.requestAgain id).staging = s.staging
      ∧ (s.requestAgain id).snapshots = s.snapshots ∧ (s.requestAgain id).snapshotUses = s.snapshotUses
      ∧ (s.requestAgain id).port = s.port ∧ (s.requestAgain id).notice = s.notice
      ∧ (s.requestAgain id).link = s.link ∧ (s.requestAgain id).lastResponse = s.lastResponse
      ∧ (s.requestAgain id).transit = s.transit ∧ (s.requestAgain id).heldBack = s.heldBack
      ∧ (s.requestAgain id).pending = s.pending := by
  simp [State.requestAgain]

/-- The response to a commit's burst (R77 to R79). -/
@[simp] theorem State.commitResponse_frame (id : Fin 8) (slot : Fin 16) (x : MemStatus) :
    (s.commitResponse id slot x).rstN = s.rstN ∧ (s.commitResponse id slot x).partState = s.partState
      ∧ (s.commitResponse id slot x).timeBase = s.timeBase
      ∧ (s.commitResponse id slot x).snapshots = s.snapshots
      ∧ (s.commitResponse id slot x).snapshotUses = s.snapshotUses ∧ (s.commitResponse id slot x).port = s.port
      ∧ (s.commitResponse id slot x).notice = s.notice ∧ (s.commitResponse id slot x).link = s.link
      ∧ (s.commitResponse id slot x).lastResponse = s.lastResponse
      ∧ (s.commitResponse id slot x).heldBack = s.heldBack ∧ (s.commitResponse id slot x).pending = s.pending := by
  unfold State.commitResponse; (repeat' split) <;> simp

/-- The serving of waiting words (R103). -/
@[simp] theorem State.serveWaiting_frame (slot : Fin 24) (l : List WaitingWord) (m : Moment) :
    (s.serveWaiting slot l m).rstN = s.rstN ∧ (s.serveWaiting slot l m).partState = s.partState
      ∧ (s.serveWaiting slot l m).timeBase = s.timeBase ∧ (s.serveWaiting slot l m).windows = s.windows
      ∧ (s.serveWaiting slot l m).staging = s.staging ∧ (s.serveWaiting slot l m).interlock = s.interlock
      ∧ (s.serveWaiting slot l m).port = s.port ∧ (s.serveWaiting slot l m).notice = s.notice
      ∧ (s.serveWaiting slot l m).link = s.link ∧ (s.serveWaiting slot l m).lastResponse = s.lastResponse
      ∧ (s.serveWaiting slot l m).transit = s.transit ∧ (s.serveWaiting slot l m).heldBack = s.heldBack
      ∧ (s.serveWaiting slot l m).pending = s.pending := by
  induction l generalizing s with
  | nil => simp [State.serveWaiting]
  | cons w l ih => simp [State.serveWaiting, ih]

/-- A filled slot (R103). -/
@[simp] theorem State.fillSnapshot_frame (slot : Fin 24) (i : SnapshotInfo) (ws : List Word) :
    (s.fillSnapshot slot i ws).rstN = s.rstN ∧ (s.fillSnapshot slot i ws).partState = s.partState
      ∧ (s.fillSnapshot slot i ws).timeBase = s.timeBase ∧ (s.fillSnapshot slot i ws).windows = s.windows
      ∧ (s.fillSnapshot slot i ws).queues = s.queues ∧ (s.fillSnapshot slot i ws).staging = s.staging
      ∧ (s.fillSnapshot slot i ws).interlock = s.interlock ∧ (s.fillSnapshot slot i ws).port = s.port
      ∧ (s.fillSnapshot slot i ws).notice = s.notice ∧ (s.fillSnapshot slot i ws).link = s.link
      ∧ (s.fillSnapshot slot i ws).lastResponse = s.lastResponse
      ∧ (s.fillSnapshot slot i ws).transit = s.transit ∧ (s.fillSnapshot slot i ws).heldBack = s.heldBack
      ∧ (s.fillSnapshot slot i ws).pending = s.pending := by
  simp [State.fillSnapshot]

/-- A load that succeeds (R103). -/
@[simp] theorem State.loadSucceeds_frame (id : Fin 8) (slot : Fin 24) (i : SnapshotInfo) (l : List WaitingWord) (ws : List Word) :
    (s.loadSucceeds id slot i l ws).rstN = s.rstN ∧ (s.loadSucceeds id slot i l ws).partState = s.partState
      ∧ (s.loadSucceeds id slot i l ws).timeBase = s.timeBase
      ∧ (s.loadSucceeds id slot i l ws).notice = s.notice ∧ (s.loadSucceeds id slot i l ws).link = s.link
      ∧ (s.loadSucceeds id slot i l ws).lastResponse = s.lastResponse
      ∧ (s.loadSucceeds id slot i l ws).heldBack = s.heldBack
      ∧ (s.loadSucceeds id slot i l ws).pending = s.pending := by
  simp [State.loadSucceeds]

/-- A load that fails (R99, R102). -/
@[simp] theorem State.loadFails_frame (id : Fin 8) (slot : Fin 24) (i : SnapshotInfo) (l : List WaitingWord) (k : EventKind) (q : Option (BitVec 32)) (c : Code) :
    (s.loadFails id slot i l k q c).rstN = s.rstN ∧ (s.loadFails id slot i l k q c).partState = s.partState
      ∧ (s.loadFails id slot i l k q c).timeBase = s.timeBase
      ∧ (s.loadFails id slot i l k q c).notice = s.notice ∧ (s.loadFails id slot i l k q c).link = s.link
      ∧ (s.loadFails id slot i l k q c).lastResponse = s.lastResponse
      ∧ (s.loadFails id slot i l k q c).heldBack = s.heldBack
      ∧ (s.loadFails id slot i l k q c).pending = s.pending := by
  simp [State.loadFails]

/-- The response to a load's burst (R98 to R103). -/
@[simp] theorem State.loadResponse_frame (id : Fin 8) (slot : Fin 24) (x : MemStatus) (ws : List Word) :
    (s.loadResponse id slot x ws).rstN = s.rstN ∧ (s.loadResponse id slot x ws).partState = s.partState
      ∧ (s.loadResponse id slot x ws).timeBase = s.timeBase ∧ (s.loadResponse id slot x ws).notice = s.notice
      ∧ (s.loadResponse id slot x ws).link = s.link
      ∧ (s.loadResponse id slot x ws).lastResponse = s.lastResponse
      ∧ (s.loadResponse id slot x ws).heldBack = s.heldBack ∧ (s.loadResponse id slot x ws).pending = s.pending := by
  unfold State.loadResponse; (repeat' split) <;> simp

/-- A response changes neither time, part state, link nor the waiting commands (R129). -/
@[simp] theorem State.deliver_frame (item : Outstanding) (x : MemStatus) (ws : List Word) :
    (s.deliver item x ws).rstN = s.rstN ∧ (s.deliver item x ws).partState = s.partState
      ∧ (s.deliver item x ws).timeBase = s.timeBase ∧ (s.deliver item x ws).link = s.link
      ∧ (s.deliver item x ws).lastResponse = s.lastResponse ∧ (s.deliver item x ws).heldBack = s.heldBack
      ∧ (s.deliver item x ws).pending = s.pending := by
  unfold State.deliver; (repeat' split) <;> simp

/-- A response of the memory (R128). -/
@[simp] theorem State.respondMemory_frame (x : MemStatus) (d : Vector Word 32) :
    (s.respondMemory x d).rstN = s.rstN ∧ (s.respondMemory x d).partState = s.partState
      ∧ (s.respondMemory x d).timeBase = s.timeBase ∧ (s.respondMemory x d).link = s.link
      ∧ (s.respondMemory x d).lastResponse = s.lastResponse ∧ (s.respondMemory x d).heldBack = s.heldBack
      ∧ (s.respondMemory x d).pending = s.pending := by
  unfold State.respondMemory; (repeat' split) <;> simp

end Sys2Proof.Machine
end

