-- ==== Sys2Proof/Laws/HandOvers.lean ====
section
/-! SUPPORT. The hand-overs between blocks: what their taking leaves in transit, what it keeps, and a command's act on a state
with none on its way. -/

namespace Sys2Proof.Machine

variable (s : State)

/-! ### What is in transit afterwards -/

/-- A hand-over of an event. -/
def HandOver.isEvent : HandOver → Bool
  | .event _ _ => true
  | .slotFreed _ _ => false
  | .release _ => false

/-- A hand-over taken puts events alone in transit: the DRAINED of a drain check (R29). -/
theorem State.takeHandOver_transit (h : HandOver) :
    ∃ l : List HandOver, (s.takeHandOver h).transit = s.transit ++ l ∧ l.all (·.isEvent) = true := by
  cases h with
  | event c e => exact ⟨[], by simp [State.takeHandOver], rfl⟩
  | release id => exact ⟨[], by simp [State.takeHandOver], rfl⟩
  | slotFreed w closing =>
    simp only [State.takeHandOver, State.drainCheck]
    split
    · exact ⟨[.event s.windows[w].cls ⟨.drained, some w, none, none, none, (s.now.orClosing closing).tick⟩], by
        simp [State.raiseWindow, State.raise, State.handOver, State.updateWindow, updatePool], rfl⟩
    · exact ⟨[], by simp, rfl⟩

/-- So do hand-overs taken one after another. -/
theorem State.takeHandOvers_transit (l : List HandOver) :
    ∃ l' : List HandOver, (s.takeHandOvers l).transit = s.transit ++ l' ∧ l'.all (·.isEvent) = true := by
  induction l generalizing s with
  | nil => exact ⟨[], by simp [State.takeHandOvers], rfl⟩
  | cons h l ih =>
    obtain ⟨a, ha, ea⟩ := s.takeHandOver_transit h
    obtain ⟨b, hb, eb⟩ := ih (s.takeHandOver h)
    exact ⟨a ++ b, by rw [State.takeHandOvers, hb, ha, List.append_assoc], by simp [ea, eb]⟩

/-- Events taken put nothing in transit (R143). -/
theorem State.takeHandOvers_events {l : List HandOver} (hl : l.all (·.isEvent) = true) :
    (s.takeHandOvers l).transit = s.transit := by
  induction l generalizing s with
  | nil => rfl
  | cons h l ih =>
    simp only [List.all_cons, Bool.and_eq_true] at hl
    rw [State.takeHandOvers, ih _ hl.2]
    cases h <;> simp_all [State.takeHandOver, HandOver.isEvent]

/-- Nothing is in transit once it has been taken. -/
@[simp] theorem State.takeTransit_transit : s.takeTransit.transit = [] := by
  obtain ⟨l, hl, el⟩ := (s.setTransit []).takeHandOvers_transit s.transit
  simp only [State.setTransit_transit, List.nil_append] at hl
  unfold State.takeTransit
  rw [State.takeHandOvers_events _ (by rw [hl]; exact el)]
  rfl

/-- With nothing in transit there is nothing to take. -/
theorem State.takeTransit_of_none (h : s.transit = []) : s.takeTransit = s := by
  have hs : s.setTransit [] = s := by rw [State.setTransit, ← h]
  simp only [State.takeTransit, h, hs, State.takeHandOvers]

/-! ### A command's act -/

/-- With nothing in transit or held back, and RST_N high, a command's act is the whole of it. -/
theorem State.event_taking (act : State → State) (h : s.rstN = true) (ht : s.transit = []) (hb : s.heldBack = false) :
    s.event act = act s := by simp [State.event, h, hb, State.takeTransit_of_none _ ht]

/-- A command acts once what is in transit has been taken. -/
theorem State.event_takeTransit (act : State → State) (h : s.rstN = true) (hb : s.heldBack = false) :
    s.event act = act s.takeTransit := by simp [State.event, h, hb]

/-- A command acts before what is held back. -/
theorem State.event_heldBack (act : State → State) (h : s.rstN = true) (hb : s.heldBack = true) :
    s.event act = s.overtake act := by simp [State.event, h, hb]

/-- With nothing in transit or held back, an act that no hand-over comes after is the whole of it too. -/
theorem State.eventLast_taking (act : State → State) (h : s.rstN = true) (ht : s.transit = []) (hb : s.heldBack = false) :
    s.eventLast act = act s := by
  have hs : s.setHeldBack false = s := by rw [State.setHeldBack, ← hb]
  simp [State.eventLast, h, hs, State.takeTransit_of_none _ ht]

/-- With RST_N low nothing is taken (R19, R66, R86, R111, R140, R165). -/
theorem State.event_reset (act : State → State) (h : s.rstN = false) : s.event act = s := by simp [State.event, h]

/-- With nothing in transit or held back, a block's test is made once, when making it again changes nothing. -/
theorem State.testEvent_taking (test : State → State) (h : s.rstN = true) (ht : s.transit = []) (hb : s.heldBack = false)
    (again : test (test s) = test s) (keeps : (test s).transit = s.transit) : s.testEvent test = test s := by
  have hs : ∀ t : State, t.transit = [] → t.setTransit [] = t := fun t h => by rw [State.setTransit, ← h]
  have ht' : (test s).transit = [] := keeps.trans ht
  simp [State.testEvent, h, hb, ht, hs s ht, hs _ ht', State.takeTesting, ht', again]

/-! ### The notice writer's test -/

/-- A start that follows another finds the writer busy, or the same conditions (R150). -/
theorem NoticeUnit.start_again (n : NoticeUnit) : n.start.start = n.start := by
  have h : n.start = n ∨ n.start.writer.isNone = false := by
    unfold NoticeUnit.start
    split
    · split
      · unfold NoticeUnit.build
        split
        · exact .inl rfl
        · exact .inr rfl
      · exact .inl rfl
    · exact .inl rfl
  rcases h with h | h
  · rw [h, h]
  · generalize n.start = m at h
    unfold NoticeUnit.start
    split
    · rw [if_neg (by simp [h])]
    · rfl

/-- So is a test that follows another (R150). -/
theorem State.writerTest_again : s.writerTest.writerTest = s.writerTest := by
  unfold State.writerTest
  by_cases h : s.partState = .running <;> simp [h, State.setNotice, NoticeUnit.start_again]

/-- With nothing in transit or held back, NOTICE_WRITE_START is one test (R150). -/
theorem execNoticeWriteStart_taking (h : s.rstN = true) (ht : s.transit = []) (hb : s.heldBack = false) :
    execNoticeWriteStart s = .next s.writerTest := by
  rw [execNoticeWriteStart, State.testEvent_taking _ _ h ht hb s.writerTest_again (by simp)]

/-! ### What hand-overs keep -/

/-- What holds across every hand-over taken holds across hand-overs taken one after another. -/
theorem State.takeHandOvers_keeps (P : State → Prop) (take : ∀ (t : State) (h : HandOver), P t → P (t.takeHandOver h))
    (l : List HandOver) (h : P s) : P (s.takeHandOvers l) := by
  induction l generalizing s with
  | nil => exact h
  | cons x l ih => exact ih _ (take _ _ h)

/-- What holds across those and across the test holds across hand-overs taken with tests between. -/
theorem State.takeTesting_keeps (P : State → Prop) (take : ∀ (t : State) (h : HandOver), P t → P (t.takeHandOver h))
    (test : State → State) (htest : ∀ t : State, P t → P (test t)) (l : List HandOver) (h : P s) :
    P (s.takeTesting test l) := by
  induction l generalizing s with
  | nil => exact htest _ h
  | cons x l ih => exact ih _ (take _ _ (htest _ h))

/-- What holds across a change of the transit and across every hand-over taken holds when what is in transit is taken. -/
theorem State.takeTransit_keeps (P : State → Prop) (transit : ∀ (t : State) (l : List HandOver), P t → P (t.setTransit l))
    (take : ∀ (t : State) (h : HandOver), P t → P (t.takeHandOver h)) (h : P s) : P s.takeTransit :=
  State.takeHandOvers_keeps _ P take _ (transit _ _ (State.takeHandOvers_keeps _ P take _ (transit _ _ h)))

/-- What holds across a change of what is in transit and held back, across every hand-over taken and across the act holds
across the command. -/
theorem State.event_keeps (P : State → Prop) (transit : ∀ (t : State) (l : List HandOver), P t → P (t.setTransit l))
    (held : ∀ (t : State) (b : Bool), P t → P (t.setHeldBack b))
    (take : ∀ (t : State) (h : HandOver), P t → P (t.takeHandOver h)) (act : State → State)
    (hact : ∀ t : State, P t → P (act t)) (h : P s) : P (s.event act) := by
  unfold State.event; split
  · split
    · exact transit _ _ (hact _ (held _ _ (transit _ _ h)))
    · exact hact _ (State.takeTransit_keeps _ P transit take h)
  · exact h

/-- So it does across an act that no hand-over comes after. -/
theorem State.eventLast_keeps (P : State → Prop) (transit : ∀ (t : State) (l : List HandOver), P t → P (t.setTransit l))
    (held : ∀ (t : State) (b : Bool), P t → P (t.setHeldBack b))
    (take : ∀ (t : State) (h : HandOver), P t → P (t.takeHandOver h)) (act : State → State)
    (hact : ∀ t : State, P t → P (act t)) (h : P s) : P (s.eventLast act) := by
  unfold State.eventLast; split
  · exact hact _ (State.takeTransit_keeps _ P transit take (held _ _ h))
  · exact h

/-- So it does across a block's test. -/
theorem State.testEvent_keeps (P : State → Prop) (transit : ∀ (t : State) (l : List HandOver), P t → P (t.setTransit l))
    (held : ∀ (t : State) (b : Bool), P t → P (t.setHeldBack b))
    (take : ∀ (t : State) (h : HandOver), P t → P (t.takeHandOver h)) (test : State → State)
    (htest : ∀ t : State, P t → P (test t)) (h : P s) : P (s.testEvent test) := by
  unfold State.testEvent; split
  · split
    · exact transit _ _ (htest _ (held _ _ (transit _ _ h)))
    · exact State.takeTesting_keeps _ P take _ htest _
        (transit _ _ (State.takeTesting_keeps _ P take _ htest _ (transit _ _ h)))
  · exact h

/-- So it does across the taking of the oldest hand-over. -/
theorem State.takeOldest_keeps (P : State → Prop) (transit : ∀ (t : State) (l : List HandOver), P t → P (t.setTransit l))
    (held : ∀ (t : State) (b : Bool), P t → P (t.setHeldBack b))
    (take : ∀ (t : State) (h : HandOver), P t → P (t.takeHandOver h)) (h : P s) : P s.takeOldest := by
  unfold State.takeOldest; split
  · exact h
  · split
    · exact take _ _ (transit _ _ h)
    · exact held _ _ h

/-! ### Frames of the link -/

variable {frame : List Byte}

/-- A frame that the link takes (R176, R180). -/
theorem State.frame_taking (taken : State → State) (h : s.rstN = true) (ht : s.transit = []) (hh : s.heldBack = false)
    (hl : s.link.heldLow = false) : s.frame taken = taken s := by simp [State.frame, h, State.event_taking, ht, hh, hl]

/-- With RST_N low a frame gets no response, has no effect, and stays in progress (R180). -/
theorem State.frame_reset (taken : State → State) (h : s.rstN = false) : s.frame taken = s.setLink ⟨none, true⟩ := by
  simp [State.frame, h]

/-- A frame in progress since then is discarded (R180). -/
theorem State.frame_discarded (taken : State → State) (h : s.rstN = true) (ht : s.transit = []) (hh : s.heldBack = false)
    (hl : s.link.heldLow = true) : s.frame taken = s.cutFrame := by simp [State.frame, h, State.event_taking, ht, hh, hl]

/-- A damaged frame is answered BAD_FRAME with zero results, whatever the command (R177). -/
theorem State.linkCommand_damaged (r : Nat) (own : State → State) (h : s.rstN = true) (ht : s.transit = [])
    (hh : s.heldBack = false) (hl : s.link.heldLow = false) (hb : byteSum frame ≠ 0) :
    s.linkCommand frame r own = s.respond .badFrame (List.replicate r 0) := by
  have h' : ¬ byteSum frame = 0#8 := hb
  simp [State.linkCommand, State.frame_taking, h, ht, hh, hl, State.linkRefusal, frameSound, h']

/-- While CLEARING, a sound frame is answered BUSY with zero results (R181). -/
theorem State.linkCommand_busy (r : Nat) (own : State → State) (h : s.rstN = true) (ht : s.transit = [])
    (hh : s.heldBack = false) (hl : s.link.heldLow = false) (hb : byteSum frame = 0) (hc : s.partState = .clearing) :
    s.linkCommand frame r own = s.respond .busy (List.replicate r 0) := by
  simp [State.linkCommand, State.frame_taking, h, ht, hh, hl, State.linkRefusal, frameSound, hb, hc]

/-- A sound frame in RUNNING is carried out by the command's own rule (R181). -/
theorem State.linkCommand_open (r : Nat) (own : State → State) (h : s.rstN = true) (ht : s.transit = [])
    (hh : s.heldBack = false) (hl : s.link.heldLow = false) (hb : byteSum frame = 0) (hp : s.partState = .running) :
    s.linkCommand frame r own = own s := by
  simp [State.linkCommand, State.frame_taking, h, ht, hh, hl, State.linkRefusal, frameSound, hb, hp]

end Sys2Proof.Machine
end

