-- ==== Sys2Proof/Laws/PerInstr.lean ====
section
/-! SUPPORT. The family FrameLength: a command's frame has the operand bytes its command byte promises. -/

namespace Sys2Proof.Laws

/-- The command's frame, when it has one, is a command byte, the operand bytes of that byte and a check byte (R176,
section 10.6, R179). -/
def FrameLength.Statement (i : Instr) : Prop :=
  i.wellFormed = true → ∀ code rest, encodeFrame i = code :: rest → rest.length = operandBytes code + 1

/-- From the frame itself. -/
theorem FrameLength.of_frame {i : Instr} {code : Byte} {rest : List Byte} (h : encodeFrame i = code :: rest)
    (hl : rest.length = operandBytes code + 1) : FrameLength.Statement i := by
  intro _ c r e
  rw [h] at e
  simp_all

/-- A command without a frame. -/
theorem FrameLength.of_none {i : Instr} (h : encodeFrame i = []) : FrameLength.Statement i := by
  intro _ c r e
  rw [h] at e
  simp at e

theorem FrameLength.pinReset :
    FrameLength.Statement .pinReset := FrameLength.of_none rfl

theorem FrameLength.pinResetRelease :
    FrameLength.Statement .pinResetRelease := FrameLength.of_none rfl

theorem FrameLength.requestTaken (n : Initiator) (address : Addr) (transfer : Transfer) :
    FrameLength.Statement (.requestTaken n address transfer) := FrameLength.of_none rfl

theorem FrameLength.entryStart (n : Initiator) :
    FrameLength.Statement (.entryStart n) := FrameLength.of_none rfl

theorem FrameLength.routeWord (n : Initiator) :
    FrameLength.Statement (.routeWord n) := FrameLength.of_none rfl

theorem FrameLength.restart (n : Initiator) :
    FrameLength.Statement (.restart n) := FrameLength.of_none rfl

theorem FrameLength.holdExpiry (n : Initiator) :
    FrameLength.Statement (.holdExpiry n) := FrameLength.of_none rfl

theorem FrameLength.responseReturn (n : Initiator) :
    FrameLength.Statement (.responseReturn n) := FrameLength.of_none rfl

theorem FrameLength.portGrant :
    FrameLength.Statement .portGrant := FrameLength.of_none rfl

theorem FrameLength.memoryResponse (status : MemStatus) (data : Vector Word 32) :
    FrameLength.Statement (.memoryResponse status data) := FrameLength.of_none rfl

theorem FrameLength.noticeWriteStart :
    FrameLength.Statement .noticeWriteStart := FrameLength.of_none rfl

theorem FrameLength.tickClose :
    FrameLength.Statement .tickClose := FrameLength.of_none rfl

theorem FrameLength.gatherTimeout (slot : Fin 16) :
    FrameLength.Statement (.gatherTimeout slot) := FrameLength.of_none rfl

theorem FrameLength.snapshotTimeout (slot : Fin 24) :
    FrameLength.Statement (.snapshotTimeout slot) := FrameLength.of_none rfl

theorem FrameLength.clearingEnd :
    FrameLength.Statement .clearingEnd := FrameLength.of_none rfl

theorem FrameLength.frameCut :
    FrameLength.Statement .frameCut := FrameLength.of_none rfl

theorem FrameLength.unknownCommand (code check : Byte) :
    FrameLength.Statement (.unknownCommand code check) := by
  intro h c rest e
  simp only [encodeFrame, List.cons.injEq] at e
  obtain ⟨rfl, rfl⟩ := e
  simp_all [Instr.wellFormed, knownCodes, operandBytes]

theorem FrameLength.getStatus (check : Byte) :
    FrameLength.Statement (.getStatus check) := FrameLength.of_frame rfl rfl

theorem FrameLength.getWindow (window check : Byte) :
    FrameLength.Statement (.getWindow window check) := FrameLength.of_frame rfl rfl

theorem FrameLength.putWindow (window : Byte) (base : Addr) (recordWords : Byte) (recordCount : BitVec 16) (flags : Byte) (writerSet readerSet : BitVec 16) (cls eventEnables check : Byte) :
    FrameLength.Statement (.putWindow window base recordWords recordCount flags writerSet readerSet cls eventEnables check) := FrameLength.of_frame rfl rfl

theorem FrameLength.enableWindow (window check : Byte) :
    FrameLength.Statement (.enableWindow window check) := FrameLength.of_frame rfl rfl

theorem FrameLength.disableWindow (window check : Byte) :
    FrameLength.Statement (.disableWindow window check) := FrameLength.of_frame rfl rfl

theorem FrameLength.reopenWindow (window check : Byte) :
    FrameLength.Statement (.reopenWindow window check) := FrameLength.of_frame rfl rfl

theorem FrameLength.flushWindow (window check : Byte) :
    FrameLength.Statement (.flushWindow window check) := FrameLength.of_frame rfl rfl

theorem FrameLength.setTimers (gather hold snapshot : BitVec 16) (check : Byte) :
    FrameLength.Statement (.setTimers gather hold snapshot check) := FrameLength.of_frame rfl rfl

theorem FrameLength.setClock (mhz : BitVec 16) (check : Byte) :
    FrameLength.Statement (.setClock mhz check) := FrameLength.of_frame rfl rfl

theorem FrameLength.setRing (base : Addr) (capacity : Byte) (ackWord : Addr) (faultClass check : Byte) :
    FrameLength.Statement (.setRing base capacity ackWord faultClass check) := FrameLength.of_frame rfl rfl

theorem FrameLength.setClasses (mode : Byte) (masked : BitVec 16) (check : Byte) :
    FrameLength.Statement (.setClasses mode masked check) := FrameLength.of_frame rfl rfl

theorem FrameLength.getClass (cls check : Byte) :
    FrameLength.Statement (.getClass cls check) := FrameLength.of_frame rfl rfl

theorem FrameLength.restartNotices (check : Byte) :
    FrameLength.Statement (.restartNotices check) := FrameLength.of_frame rfl rfl

theorem FrameLength.setPort (mode check : Byte) :
    FrameLength.Statement (.setPort mode check) := FrameLength.of_frame rfl rfl

theorem FrameLength.clear (check : Byte) :
    FrameLength.Statement (.clear check) := FrameLength.of_frame rfl rfl

end Sys2Proof.Laws
end

