-- ==== Sys2Proof/Laws/Shared.lean ====
section
/-! SUPPORT. What the shared operations do to the fields they change. -/

namespace Sys2Proof.Machine

/-! ### Pools -/

@[simp] theorem getElem_mapPool {α β : Type} {n : Nat} (v : Vector α n) (f : α → β) (i : Nat) (h : i < n) :
    (mapPool v f)[i] = f v[i] := by simp [mapPool]

/-- One item of a pool changed. -/
theorem getElem_updatePool {α : Type} {n : Nat} (v : Vector α n) (i : Fin n) (f : α → α) (j : Fin n) :
    (updatePool v i f)[j] = if j = i then f v[i] else v[j] := by
  simp only [updatePool, Fin.getElem_fin, Vector.getElem_set]
  by_cases h : i = j
  · subst h; simp
  · have : i.val ≠ j.val := fun e => h (Fin.ext e)
    simp [this, Ne.symm h]

/-- The item changed. -/
theorem getElem_updatePool_self {α : Type} {n : Nat} (v : Vector α n) (i : Fin n) (f : α → α) :
    (updatePool v i f)[i] = f v[i] := by rw [getElem_updatePool]; exact if_pos rfl

/-- The other items of a pool stay. -/
theorem getElem_updatePool_ne {α : Type} {n : Nat} (v : Vector α n) (i : Fin n) (f : α → α) {j : Fin n} (h : j ≠ i) :
    (updatePool v i f)[j] = v[j] := by rw [getElem_updatePool]; exact if_neg h

/-- The item found has the property. -/
theorem findPool_some {α : Type} {n : Nat} {v : Vector α n} {p : α → Bool} {i : Fin n} (h : findPool v p = some i) :
    p v[i] = true := by
  have := List.find?_some h
  simpa using this

/-- Nothing found: no item has the property. -/
theorem findPool_none {α : Type} {n : Nat} {v : Vector α n} {p : α → Bool} (h : findPool v p = none) (i : Fin n) :
    p v[i] = false := by
  have := List.find?_eq_none.mp h i (List.mem_finRange i)
  simpa using this

/-! ### Classes and events -/

variable (s : State)

/-- An event raised joins what is in transit, last (R143, log 8). -/
theorem State.raise_transit (cls : ClassId) (e : Event) : (s.raise cls e).transit = s.transit ++ [.event cls e] := rfl

/-- An event that reaches its class changes that class, by `NoticeClass.take`, and nothing else of the notice unit (R143). -/
theorem State.countEvent_notice (cls : ClassId) (e : Event) :
    (s.countEvent cls e).notice = { s.notice with classes := updatePool s.notice.classes cls fun c => c.take e } := rfl

/-- The count of a class that takes an event: one more, up to 255 (R143). -/
theorem NoticeClass.take_pending (c : NoticeClass) (e : Event) (h : c.pending ≤ 255) :
    (c.take e).pending = min (c.pending + 1) 255 := by
  simp only [NoticeClass.take, Config.pendingCeiling]; split <;> omega

/-- A class that has taken an event has something to report (R142). -/
theorem NoticeClass.take_pos (c : NoticeClass) (e : Event) : 0 < (c.take e).pending := by
  simp only [NoticeClass.take, Config.pendingCeiling]; split <;> omega

@[simp] theorem NoticeClass.take_inFlight (c : NoticeClass) (e : Event) : (c.take e).inFlight = c.inFlight := rfl

@[simp] theorem NoticeClass.take_masked (c : NoticeClass) (e : Event) : (c.take e).masked = c.masked := rfl

/-- An event leaves everything of the notice unit but the classes. -/
@[simp] theorem State.countEvent_notice_frame (cls : ClassId) (e : Event) :
    (s.countEvent cls e).notice.state = s.notice.state ∧ (s.countEvent cls e).notice.ring = s.notice.ring
      ∧ (s.countEvent cls e).notice.faultClass = s.notice.faultClass ∧ (s.countEvent cls e).notice.produced = s.notice.produced
      ∧ (s.countEvent cls e).notice.consumed = s.notice.consumed ∧ (s.countEvent cls e).notice.inFlight = s.notice.inFlight
      ∧ (s.countEvent cls e).notice.mode = s.notice.mode ∧ (s.countEvent cls e).notice.lastDelivered = s.notice.lastDelivered
      ∧ (s.countEvent cls e).notice.writer = s.notice.writer ∧ (s.countEvent cls e).notice.ackRange = s.notice.ackRange := by
  simp [State.countEvent]

/-! ### Entries -/

/-- Settling keeps everything of an entry but its state. -/
@[simp] theorem Entry.settle_frame (e : Entry) :
    e.settle.tag = e.tag ∧ e.settle.address = e.address ∧ e.settle.transfer = e.transfer ∧ e.settle.position = e.position
      ∧ e.settle.outcomes = e.outcomes ∧ e.settle.run = e.run ∧ e.settle.closing = e.closing := by
  unfold Entry.settle; split <;> simp

/-- An entry is DONE after settling when every outcome is a code, and as it was otherwise (R13). -/
theorem Entry.settle_state (e : Entry) :
    e.settle.state = if e.outcomes.all (·.coded) then .done else e.state := by
  unfold Entry.settle; split <;> simp

/-- A word's outcome keeps everything of the entry but the outcomes and the state. -/
@[simp] theorem Entry.answer_frame (e : Entry) (i : Nat) (c : Code) (d : Word) :
    (e.answer i c d).tag = e.tag ∧ (e.answer i c d).address = e.address ∧ (e.answer i c d).transfer = e.transfer
      ∧ (e.answer i c d).position = e.position ∧ (e.answer i c d).run = e.run ∧ (e.answer i c d).closing = e.closing
      ∧ (e.answer i c d).outcomes = e.outcomes.set i (answeredWith c d) := by
  simp [Entry.answer]

/-- An owed restart keeps everything of the entry but its hold. -/
@[simp] theorem Entry.markRestart_frame (e : Entry) (p : Hold → Bool) (m : Moment) :
    (e.markRestart p m).tag = e.tag ∧ (e.markRestart p m).address = e.address
      ∧ (e.markRestart p m).transfer = e.transfer ∧ (e.markRestart p m).position = e.position
      ∧ (e.markRestart p m).outcomes = e.outcomes ∧ (e.markRestart p m).run = e.run
      ∧ (e.markRestart p m).closing = e.closing := by
  unfold Entry.markRestart; (repeat' split) <;> simp

/-- A change of one entry leaves the other queues. -/
theorem State.updateEntry_other (n : Initiator) (tag : Fin 4) (f : Entry → Entry) {m : Initiator} (h : m ≠ n) :
    (s.updateEntry n tag f).queues[m] = s.queues[m] := getElem_updatePool_ne _ _ _ h

/-- A change of one entry keeps every queue's length. -/
@[simp] theorem State.updateEntry_length (n : Initiator) (tag : Fin 4) (f : Entry → Entry) (m : Initiator) :
    (s.updateEntry n tag f).queues[m].length = s.queues[m].length := by
  simp only [State.updateEntry, State.setQueues, getElem_updatePool, updateTagged]; split <;> simp_all

/-- Word outcomes keep every queue's length. -/
@[simp] theorem State.answerEach_length (refs : List WordRef) (c : Code) (d : List Word) (m : Initiator) :
    (s.answerEach refs c d).queues[m].length = s.queues[m].length := by
  induction refs generalizing s d with
  | nil => simp [State.answerEach]
  | cons r rs ih => rw [State.answerEach, ih, State.answer, State.updateEntry_length]

/-- Owed restarts keep every queue's length. -/
@[simp] theorem State.markRestarts_length (p : Hold → Bool) (m : Moment) (n : Initiator) :
    (s.markRestarts p m).queues[n].length = s.queues[n].length := by simp [State.markRestarts]

/-- A drain check keeps every queue's length. -/
@[simp] theorem State.drainCheck_length (w : WindowId) (m : Moment) (n : Initiator) :
    (s.drainCheck w m).queues[n].length = s.queues[n].length := by
  unfold State.drainCheck; split
  · rw [State.markRestarts_length]; simp
  · rfl

/-- The freeing of a staging slot keeps every queue's length. -/
@[simp] theorem State.freeStaging_length (slot : Fin 16) (m : Moment) (n : Initiator) :
    (s.freeStaging slot m).queues[n].length = s.queues[n].length := by
  unfold State.freeStaging; split
  · rfl
  · simp [State.handOver, State.markRestarts]

/-- The freeing of a snapshot slot keeps every queue's length. -/
@[simp] theorem State.freeSnapshot_length (slot : Fin 24) (m : Moment) (n : Initiator) :
    (s.freeSnapshot slot m).queues[n].length = s.queues[n].length := by
  unfold State.freeSnapshot; split
  · rfl
  · simp [State.handOver, State.markRestarts]

/-- A start that is part of a close keeps a queue's length and tags (R166). -/
@[simp] theorem startAtClose_tags (t : Tick) (q : List Entry) : (startAtClose t q).map (·.tag) = q.map (·.tag) := by
  induction q with
  | nil => rfl
  | cons e q ih => unfold startAtClose; split <;> simp [ih]

/-- A start that is part of a close keeps every queue's length (R166). -/
@[simp] theorem State.passClosing_length (n : Initiator) (m : Moment) (k : Initiator) :
    (s.passClosing n m).queues[k].length = s.queues[k].length := by
  have h (q : List Entry) : (startAtClose m.tick q).length = q.length := by
    rw [← List.length_map (·.tag), startAtClose_tags, List.length_map]
  unfold State.passClosing; split
  · simp only [State.setQueues, getElem_updatePool]; split <;> simp_all
  · rfl

/-! ### The interlock -/

/-- A reservation is made at the end of the table, under a number of its own, its burst not in flight (R70). -/
theorem State.reserve_table (o : ReservationOwner) (rs : List RecordId) (b : Burst) :
    (s.reserve o rs b).interlock =
      { s.interlock with
        table := s.interlock.table ++ [⟨freeReservationId s.interlock.table, o, rs, false, false, b⟩] } := rfl

/-- A taking adds exactly one reservation, at the end of the table, for the records given, and leaves the wait list
(R70). -/
theorem State.take_interlock (o : OpOwner) (rs : List RecordId) :
    ∃ owner b, (s.take o rs).interlock =
      { s.interlock with
        table := s.interlock.table ++ [⟨freeReservationId s.interlock.table, owner, rs, false, false, b⟩] } := by
  cases o with
  | commit slot => simp only [State.take, State.takeCommit]; split <;> exact ⟨_, _, rfl⟩
  | load slot => simp only [State.take, State.takeLoad]; split <;> exact ⟨_, _, rfl⟩
  | direct n ws a => exact ⟨_, _, rfl⟩

/-- What holds across every taking of a scan, and across the wait list's change, holds across the scan (R71). The
taking may rest on room in the table and on the records being in no reservation. -/
theorem State.scanFrom_keeps (P : State → Prop)
    (take : ∀ (t : State) (item : WaitItem) (older : List WaitItem), P t → tableHasRoom t.interlock.table = true →
      unblocked item.records t.interlock.table older = true → P (t.take item.owner item.records))
    (wait : ∀ (t : State) (l : List WaitItem), P t → P (t.setWaitList l)) (passed waiting : List WaitItem) (h : P s) :
    P (s.scanFrom passed waiting) := by
  induction waiting generalizing s passed with
  | nil => exact wait _ _ h
  | cons item rest ih =>
    unfold State.scanFrom; split
    · exact wait _ _ h
    · split
      · exact ih _ _ (take _ _ _ h (by simp_all) (by assumption))
      · exact ih _ _ h

/-- What holds across a taking and across the wait list's change holds across an arrival (R70, R72). -/
theorem State.arrive_keeps (P : State → Prop) (o : OpOwner) (rs : List RecordId)
    (take : tableHasRoom s.interlock.table = true → unblocked rs s.interlock.table s.interlock.waitList = true →
      P (s.take o rs))
    (wait : ∀ l : List WaitItem, P (s.setWaitList l)) : P (s.arrive o rs) := by
  unfold State.arrive; split
  · split
    · exact take (by assumption) (by assumption)
    · exact wait _
  · exact wait _

/-- A number no reservation has exists while the table has room (R68, log 14). -/
theorem freeReservationId_fresh (table : List Reservation) (h : table.length < 8) :
    ∀ r ∈ table, r.id ≠ freeReservationId table := by
  have hex : ∃ i : Fin 8, ∀ r ∈ table, r.id ≠ i := by
    by_contra hc
    push Not at hc
    have hsub : (Finset.univ : Finset (Fin 8)) ⊆ (table.map (·.id)).toFinset := by
      intro i _
      obtain ⟨r, hr, he⟩ := hc i
      simpa using ⟨r, hr, he⟩
    have h1 := Finset.card_le_card hsub
    have h2 := List.toFinset_card_le (table.map (·.id))
    simp at h1 h2
    omega
  unfold freeReservationId
  cases hf : (List.finRange 8).find? (fun i => !table.any fun r => r.id == i) with
  | none =>
    obtain ⟨i, hi⟩ := hex
    have := List.find?_eq_none.mp hf i (List.mem_finRange i)
    simp at this
    obtain ⟨r, hr, he⟩ := this
    exact absurd he (hi r hr)
  | some i =>
    have := List.find?_some hf
    simp at this
    simpa using this

end Sys2Proof.Machine
end

