-- ==== Sys2Proof/Laws/Queues.lean ====
section
/-! SUPPORT. A queue laid out as older entries, one entry and younger entries: what the shared operations do to the one
entry, and how a command finds it. -/

namespace Sys2Proof.Machine

variable {s : State} {n : Initiator} {older younger : List Entry} {e e' : Entry}

/-- Tags of the older and younger entries differ from the entry's, so a tagged change reaches the entry alone. -/
theorem updateTagged_layout (f : Entry → Entry) (ht : ∀ x ∈ older ++ younger, x.tag ≠ e.tag) :
    updateTagged (older ++ e :: younger) e.tag f = older ++ f e :: younger := by
  have h : ∀ l : List Entry, (∀ x ∈ l, x.tag ≠ e.tag) → l.map (fun x => if x.tag = e.tag then f x else x) = l := by
    intro l hl
    induction l with
    | nil => rfl
    | cons a l ih => simp_all
  simp only [updateTagged, List.map_append, List.map_cons, if_true]
  rw [h older fun x hx => ht x (by simp [hx]), h younger fun x hx => ht x (by simp [hx])]

/-- A change of the entry changes the layout's one entry. -/
theorem State.updateEntry_layout (h : s.queueIs n older e younger) (f : Entry → Entry) :
    s.updateEntry n e.tag f = s.withQueue n older (f e) younger := by
  simp only [State.updateEntry, State.withQueue, State.setQueues, updatePool, h.1, updateTagged_layout f h.2]

/-- A layout with an entry of the same tag put in is a layout again. -/
theorem State.withQueue_is (h : s.queueIs n older e younger) (ht : e'.tag = e.tag) :
    (s.withQueue n older e' younger).queueIs n older e' younger :=
  ⟨by simp [State.withQueue], fun x hx => ht ▸ h.2 x hx⟩

/-- The later of two entries put in stands. -/
theorem State.withQueue_withQueue :
    (s.withQueue n older e younger).withQueue n older e' younger = s.withQueue n older e' younger := by
  simp [State.withQueue]

/-- The entry is found by its tag. -/
theorem State.entry_layout (h : s.queueIs n older e younger) : s.entry n e.tag = some e := by
  have ho : older.find? (fun x => x.tag == e.tag) = none :=
    List.find?_eq_none.mpr fun x hx => by simpa using h.2 x (by simp [hx])
  rw [State.entry, h.1, List.find?_append, ho]
  simp

/-- The entry whose word is routed next (R3, R4). -/
theorem State.routingEntry_layout (h : s.routesNext n older e younger) : s.routingEntry n = some e := by
  obtain ⟨_, ⟨hq, _⟩, ho, hs, hp⟩ := h
  have hn : older.find? (·.routing) = none := List.find?_eq_none.mpr fun x hx => by simp [ho x hx]
  have he : e.routing = true := by simp [Entry.routing, hs, hp]
  rw [State.routingEntry, hq, List.find?_append, hn, List.find?_cons, he]
  rfl

/-- ROUTE_WORD routes the entry's word (R4). -/
theorem execRouteWord_layout (h : s.routesNext n older e younger) :
    execRouteWord n s = .next (s.routeEntry n e (e.moment s.now)) := by
  simp [execRouteWord, State.event_taking, h.1.1, h.1.2.1, h.1.2.2, State.routeNext, State.routingEntry_layout h]

/-- The HELD entry of a queue (R9). -/
theorem State.heldEntry_layout {k : Hold} (h : s.queueIs n older e younger) (ho : ∀ x ∈ older, x.hold = none)
    (he : e.state = .held k) : s.heldEntry n = some e := by
  have hn : older.find? (fun x => x.hold.isSome) = none := List.find?_eq_none.mpr fun x hx => by simp [ho x hx]
  have hk : e.hold = some k := by simp [Entry.hold, he]
  rw [State.heldEntry, h.1, List.find?_append, hn, List.find?_cons, hk]
  rfl

/-- At the end of its routing an entry without a run has nothing to hand over, and the next entry may start (R3, R5, R6). -/
theorem State.endRouting_without_run (h : s.queueIs n older e younger) (hr : e.run = none) (m : Moment) :
    s.endRouting n e.tag m = if e.routed then s.passClosing n m else s := by
  unfold State.endRouting State.handOverRun
  rw [State.entry_layout h]
  simp [hr]

/-- The oldest WAITING entry is the one that is to start as part of a close (R166, R3). -/
theorem startAtClose_layout (t : Tick) (ho : ∀ x ∈ older, x.state ≠ .waiting) (he : e.state = .waiting) :
    startAtClose t (older ++ e :: younger) = older ++ { e with closing := some t } :: younger := by
  induction older with
  | nil => simp [startAtClose, he]
  | cons a l ih =>
    rw [List.cons_append, startAtClose, if_neg (ho a (by simp)), ih fun x hx => ho x (by simp [hx]), List.cons_append]

/-- The routing of a word of an entry without a run (R4). -/
theorem State.routeEntry_without_run (hr : e.run = none) (m : Moment) :
    s.routeEntry n e m = (s.follow ⟨n, e.tag, e.position⟩ (s.routePath n e) m).endRouting n e.tag m := by
  simp [State.routeEntry, Path.continues, hr]

end Sys2Proof.Machine
end

