-- ==== Sys2Proof/Laws/Slots.lean ====
section
/-! SUPPORT. The lookups of staging and snapshot slots by record, window and reader, in the words of the statements, and the
paths of a word that they decide. -/

namespace Sys2Proof.Machine

variable {s : State} {n : Initiator} {r : RecordId} {w : WindowId} {e : Entry}

/-- A pool's search answers the lowest index with the property. -/
theorem findPool_eq_some {α : Type} {k : Nat} {v : Vector α k} {p : α → Bool} {i : Fin k} :
    findPool v p = some i ↔ p v[i] = true ∧ ∀ j : Fin k, j < i → p v[j] = false := by
  simp only [findPool, List.find?_eq_some_iff_getElem, List.getElem_finRange, List.length_finRange]
  constructor
  · rintro ⟨hp, a, ha, rfl, hb⟩
    exact ⟨hp, fun j hj => by simpa using hb j.val hj⟩
  · rintro ⟨hp, hb⟩
    exact ⟨hp, i.val, i.isLt, rfl, fun j hj => by simpa using hb ⟨j, by omega⟩ hj⟩

/-- It answers nothing exactly when no index has it. -/
theorem findPool_eq_none {α : Type} {k : Nat} {v : Vector α k} {p : α → Bool} :
    findPool v p = none ↔ ∀ j : Fin k, p v[j] = false := by
  simp [findPool, List.find?_eq_none]

/-- A slot is in use for a record exactly when that is its target. -/
theorem StagingSlot.target_eq (x : StagingSlot) : (x.target == some r) = x.holdsRecord r := by cases x <;> rfl

/-- A snapshot slot's information names its reader and record. -/
theorem SnapshotSlot.info_any (x : SnapshotSlot) (p : RecordId → Bool) :
    (x.info.any fun i => i.reader == n && p i.target) = x.heldFor n p := by cases x <;> rfl

/-- The record's staging slot (R46). -/
theorem State.stagingFor_eq_some {slot : Fin 16} : s.stagingFor r = some slot ↔ s.stagingIs r slot := by
  simp only [State.stagingFor, findPool_eq_some, StagingSlot.target_eq]

/-- No staging slot is in use for the record (R46). -/
theorem State.stagingFor_eq_none : s.stagingFor r = none ↔ s.noStaging r := by
  simp only [State.stagingFor, findPool_eq_none, StagingSlot.target_eq]

/-- The reader's slot for the record (R90). -/
theorem State.snapshotFor_eq_some {slot : Fin 24} : s.snapshotFor n r = some slot ↔ s.snapshotIs n r slot := by
  simp only [State.snapshotFor, findPool_eq_some, SnapshotSlot.info_any (p := fun x => x == r)]

/-- The reader holds no slot for the record (R90). -/
theorem State.snapshotFor_eq_none : s.snapshotFor n r = none ↔ s.noSnapshot n fun x => x == r := by
  simp only [State.snapshotFor, findPool_eq_none, SnapshotSlot.info_any (p := fun x => x == r)]

/-- The reader holds no slot in the window (R93). -/
theorem State.snapshotIn_eq_none : s.snapshotIn n w = none ↔ s.noSnapshot n fun x => x.window == w := by
  simp only [State.snapshotIn, findPool_eq_none, SnapshotSlot.info_any (p := fun x => x.window == w)]

/-- The number of slots a reader holds (R88). -/
theorem State.readerSlots_length : (s.readerSlots n).length = s.slotCount n := by
  rw [State.readerSlots, ← List.countP_eq_length_filter]
  exact List.countP_congr fun i _ => by
    rw [← SnapshotSlot.info_any (p := fun _ => true)]
    simp

/-! ### Paths -/

/-- The path of a read is a direct window read (R22, R90). -/
theorem State.readPath_direct {t : RecordId} {o : Nat} :
    s.readPath n t o = .direct r
      ↔ t = r ∧ (s.windows[t.window].snapshots = false ∨ (s.noSnapshot n (fun y => y == t) ∧ o ≠ 0)) := by
  unfold State.readPath
  cases hs : s.windows[t.window].snapshots
  · simp
  · cases hf : s.snapshotFor n t with
    | some slot =>
      have h := State.snapshotFor_eq_some.mp hf
      have hn : ¬ s.noSnapshot n fun y => y == t := fun hn => by have := hn slot; rw [h.1] at this; cases this
      simp only [hn, false_and, or_false, Bool.true_eq_false, and_false, iff_false]
      have h1 := h.1
      generalize s.snapshots[slot] = x at h1
      cases x with
      | free => cases h1
      | held _ _ _ => simp
      | loading _ _ _ _ => simp
    | none =>
      have h : s.noSnapshot n fun y => y == t := State.snapshotFor_eq_none.mp hf
      by_cases ho : o = 0
      · have : ¬ (t = r ∧ ((true : Bool) = false ∨ ((s.noSnapshot n fun y => y == t) ∧ o ≠ 0))) := by simp [ho]
        simp only [this, iff_false]
        simp only [ho, ne_eq, not_true_eq_false, if_false, Bool.not_true, Bool.false_eq_true]
        split
        · simp
        · split <;> simp
      · constructor
        · intro h'
          simp [ho] at h'
          exact ⟨h', .inr ⟨h, ho⟩⟩
        · rintro ⟨rfl, -⟩
          simp [ho]

/-- The path of a write is none. -/
theorem State.writePath_ne_direct {t : RecordId} {o : Nat} {d : Word} : s.writePath n t o d ≠ .direct r := by
  unfold State.writePath
  split
  · split
    · split <;> simp
    · simp
    · simp
  · split
    · simp
    · split <;> simp

/-- The word at the routing position is a direct window read (R22, R90). -/
theorem State.routePath_direct : s.routePath n e = .direct r ↔ s.directRead n e r := by
  unfold State.routePath State.directRead
  dsimp only
  generalize e.wordAddress e.position = a
  generalize s.matchWindow a = mw
  generalize e.transfer = tr
  cases mw with
  | none => simp
  | some w =>
    cases tr with
    | read k =>
      cases hm : memberOf s.windows[w].readerSet n with
      | false =>
        constructor
        · intro h; simp [hm, -Fin.getElem_fin] at h
        · rintro ⟨h, -, -, h', -⟩
          have := Option.some.inj h; subst this
          rw [memberOf, h'] at hm; cases hm
      | true =>
        have hb : (if memberOf s.windows[w].readerSet n = true then
            s.readPath n ⟨w, s.windows[w].recordOf a⟩ (s.windows[w].offsetOf a) else .refused ⟨w, s.windows[w].recordOf a⟩)
            = .direct r ↔ s.readPath n ⟨w, s.windows[w].recordOf a⟩ (s.windows[w].offsetOf a) = .direct r := by rw [if_pos hm]
        refine hb.trans (State.readPath_direct.trans ?_)
        constructor
        · rintro ⟨rfl, h⟩
          exact ⟨rfl, rfl, ⟨k, rfl⟩, hm, h⟩
        · rintro ⟨h, hr, -, -, hd⟩
          have := Option.some.inj h; subst this
          have he : (⟨r.window, s.windows[r.window].recordOf a⟩ : RecordId) = r := by rw [← hr]
          rw [he]
          exact ⟨rfl, hd⟩
    | write ws =>
      constructor
      · intro h
        simp only at h
        split at h
        · split at h
          · simp at h
          · exact absurd h State.writePath_ne_direct
        · simp at h
      · rintro ⟨-, -, ⟨k, h⟩, -⟩
        cases h

/-- The word at the routing position passes through (R22). -/
theorem State.routePath_passThrough : s.routePath n e = .passThrough ↔ s.matchWindow (e.wordAddress e.position) = none := by
  unfold State.routePath
  dsimp only
  generalize s.matchWindow (e.wordAddress e.position) = mw
  cases mw with
  | none => simp
  | some w =>
    simp only [reduceCtorEq, iff_false]
    unfold State.readPath State.writePath
    repeat' split
    all_goals simp

/-- A run goes on exactly with a word of its own kind (R5, R6). -/
theorem State.routePath_continues (run : Run) :
    (s.routePath n e).continues (some run) = true ↔ match run.window with
      | none => s.matchWindow (e.wordAddress e.position) = none
      | some w => ∃ target : RecordId, target.window = w ∧ s.directRead n e target := by
  cases hw : run.window with
  | none =>
    refine Iff.trans ?_ (State.routePath_passThrough (n := n))
    cases h : s.routePath n e <;> simp [Path.continues, hw]
  | some w =>
    constructor
    · intro hc
      cases h : s.routePath n e <;> simp [h, Path.continues, hw] at hc
      exact ⟨_, hc.symm, State.routePath_direct.mp h⟩
    · rintro ⟨target, ht, hd⟩
      simp [State.routePath_direct.mpr hd, Path.continues, hw, ht]

end Sys2Proof.Machine
end

