-- ==== Sys2Proof/Tests/Slice0.lean ====
section
/-! SUPPORT. The model's own tests: ill-formed terms, values the spec works out, one small step for a command, and for each
statement with hypotheses a state and operands that meet them. -/

namespace Sys2Proof.Tests

open Sys2Proof Sys2Proof.Machine

/-! ### Small states -/

/-- The check byte that makes a frame sum to 0 (R177). -/
def checkOf (f : Byte → Instr) : Byte := 0 - byteSum (encodeFrame (f 0))

/-- The next state of a command. -/
def after (c : Instr) (s : State) : Option State := match exec c s with
  | .next t => some t
  | .fault _ => none
  | .refused _ => none

/-- The response bytes of a command's frame with a correct check byte. -/
def reply (s : State) (f : Byte → Instr) : Option (List Byte) := (after (f (checkOf f)) s).bind (·.link.response)

/-- Window 3 of section 2.2's example, without stamps, every event enabled. -/
def table : Window :=
  { Window.reset with
    state := .active, base := 0x10000, recordWords := 8, recordCount := 100, writerSet := 0xFFFF, readerSet := 0xFFFF
    cls := 2, enables := ⟨true, true, true, true⟩ }

/-- The same window for snapshots. -/
def shot : Window := { table with snapshots := true }

/-- A STREAM window of two-word records. -/
def stream : Window := { table with kind := .stream, recordWords := 2, recordCount := 4 }

/-- The part after reset with window 3 set. -/
def part (x : Window) : State := State.reset.setWindows (State.reset.windows.set 3 x)

/-- A fresh entry. -/
def fresh (a : Addr) (x : Transfer) (state : EntryState) : Entry :=
  ⟨0, a, x, state, 0, List.replicate x.length .unknown, none, none⟩

/-- A full word of a WRITE. -/
def full (d : Word) : WriteWord := ⟨d, 0xFF⟩

/-- The part with one entry in queue 6. -/
def holding (s : State) (e : Entry) : State := s.withQueue 6 [] e []

/-- A staging slot's gathering of record r of window 3 by initiator 6, with its first words present. -/
def gather (r : Nat) (words : List Word) : Gather :=
  ⟨⟨3, r⟩, 6, Vector.ofFn fun i => words[i.val]?, 0⟩

/-- A snapshot of record r of window w for initiator 6. -/
def info (w : WindowId) (r : Nat) : SnapshotInfo := ⟨6, ⟨w, r⟩, 0, ⟨0, none⟩, 0⟩

def withStaging (s : State) (i : Fin 16) (x : StagingSlot) : State := s.setStaging (s.staging.set i x)
def withSnapshot (s : State) (i : Fin 24) (x : SnapshotSlot) : State := s.setSnapshots (s.snapshots.set i x)

/-- The part with one reservation, and its burst outstanding. -/
def inMemory (s : State) (q : Requester) (x : Reservation) : State :=
  (s.setInterlock ⟨[x], []⟩).setPort { s.port with outstanding := [⟨q, x.burst, .reservation x.id⟩] }

/-- The part with one burst in the direct list of initiator 6. -/
def waitingDirect (s : State) (x : DirectItem) : State :=
  s.setPort { s.port with direct := s.port.direct.set 6 [x] }

/-- The notice unit of section 8.6: capacity 8 at 7000h, ack word 7200h, P 5, O 3, classes 2 and 9 in flight. -/
def noticeUnit : NoticeUnit :=
  { NoticeUnit.reset with
    state := .running, ring := some ⟨0x7000, 8, 0x7200⟩, produced := 5, consumed := 3, inFlight := [(3, 2), (4, 9)]
    classes := Vector.ofFn fun c : Fin 16 =>
      if c = 4 then ⟨3, some ⟨.abandoned, some 12, some 7, some 3, none, 1100⟩, 0b1001, false, false⟩
      else if c = 2 ∨ c = 9 then ⟨0, none, 0, false, true⟩ else ⟨0, none, 0, false, false⟩ }

def notices : State := State.reset.setNotice noticeUnit

/-- The write that unit builds. -/
def noticeWrite : NoticeWrite :=
  buildWrite ⟨0x7000, 8, 0x7200⟩ 5 4 noticeUnit.classes[4] ⟨.abandoned, some 12, some 7, some 3, none, 1100⟩

/-- The part after event 2 of section 8.6, that write's burst outstanding. -/
def noticeInMemory (repeated : Bool) : State :=
  (notices.setNotice { noticeUnit with
    classes := noticeUnit.classes.set 4 ⟨1, some ⟨.committed, some 12, some 2, some 8, some 42, 1400⟩, 1, false, false⟩
    writer := some { noticeWrite with repeated := repeated, outstanding := true } }).setPort
    { notices.port with outstanding := [⟨.notice, noticeWrite.burst, .noticeWriter⟩] }

/-! ### Terms that no pin carries -/

theorem test_illFormed_no_word : Instr.wellFormed (.requestTaken 6 0 (.read 0)) = false := by decide
theorem test_illFormed_nine_words : Instr.wellFormed (.requestTaken 6 0 (.read 9)) = false := by decide
theorem test_illFormed_unaligned : Instr.wellFormed (.requestTaken 6 4 (.read 1)) = false := by decide
theorem test_illFormed_known_code : Instr.wellFormed (.unknownCommand 0x31 0) = false := by decide
theorem test_illFormed_request_faults : exec (.requestTaken 6 0 (.write [])) State.reset = .fault .illFormed := rfl
theorem test_illFormed_code_faults : exec (.unknownCommand 0x60 0) State.reset = .fault .illFormed := rfl

/-! ### Values the spec works out -/

/-- Section 10.6's SET_CLOCK frame of 200 MHz: the bytes, the status and the response check byte. -/
theorem test_setClock_frame : decodeFrame [0x31, 0x00, 0xC8, 0x07] = .setClock 200 0x07
    ∧ encodeFrame (.setClock 200 0x07) = [0x31, 0x00, 0xC8, 0x07]
    ∧ after (.setClock 200 0x07) State.reset
      = some ({ State.reset with timeBase := { TimeBase.reset with declaredClock := 200 }, link := ⟨some [0, 0], false⟩ }) := by
  decide

/-- The same frame with check byte 06h is damaged. -/
theorem test_setClock_damaged :
    after (.setClock 200 0x06) State.reset = some { State.reset with link := ⟨some [0x01, 0xFF], false⟩ } := by decide

/-- Section 2.2's example of decoding addresses. -/
theorem test_addresses : [0xFFF8, 0x10000, 0x10038, 0x10A48, 0x118F8, 0x11900].map (part table).matchWindow
      = [none, some 3, some 3, some 3, some 3, none]
    ∧ [0x10000, 0x10038, 0x10A48, 0x118F8].map (fun a => (table.recordOf a, table.offsetOf a))
      = [(0, 0), (0, 7), (41, 1), (99, 7)] := by decide

/-- Section 6.7's stamp of record 37. -/
theorem test_stamp : stampWord [0x0011223344556677, 0xFFFF0000FFFF0001, 0x123456789ABCDEF0] 37 0x12345 6
    = 0x000123452D2E6000 := by decide

/-- Section 6.7's loads: consistent, torn, and at another index. -/
theorem test_verify :
    stampMatches [0x0011223344556677, 0xFFFF0000FFFF0001, 0x123456789ABCDEF0, 0x000123452D2E6000] 37 = true
    ∧ stampMatches [0x0011223344556677, 0xFFFF0000FFFF0001, 0, 0x000123452D2E6000] 37 = false
    ∧ stampMatches [0x0011223344556677, 0xFFFF0000FFFF0001, 0x123456789ABCDEF0, 0x000123452D2E6000] 38 = false := by decide

/-- Section 10.7's notice entry and its place in the ring. -/
theorem test_noticeEntry :
    noticeEntry 4 4 ⟨.committed, some 12, some 2, some 8, some 42, 1400⟩ 0b1001 5
      = [0x00000009002c0414, 0x0000001800001002, 0x000000010000002a, 0x0000000500000578]
    ∧ Ring.position ⟨0x7000, 8, 0x7200⟩ 5 = 0x70A0 := by decide

/-- GET_STATUS right after reset: status 0, nineteen result bytes of 0 and the check byte. -/
theorem test_getStatus : reply State.reset .getStatus = some (List.replicate 21 0) := by decide

/-- GET_STATUS of section 8.6's notice unit: RUNNING, P 5, O 3, NTF_N asserted. -/
theorem test_getStatus_notices :
    reply notices .getStatus = some ([0, 0, 1, 0, 0, 0, 5, 0, 0, 0, 3, 2] ++ List.replicate 8 0 ++ [0xF5]) := by decide

/-- GET_WINDOW of section 2.2's window. -/
theorem test_getWindow : reply (part table) (.getWindow 3)
    = some [0, 1, 0, 0, 1, 0, 0, 8, 0, 100, 0, 0xFF, 0xFF, 0xFF, 0xFF, 2, 0x0F, 0, 0, 0, 0, 0, 0, 0x85] := by decide

/-- GET_CLASS of section 8.6's class 4. -/
theorem test_getClass : reply notices (.getClass 4)
    = some [0, 3, 4, 7, 12, 0, 7, 3, 0, 0, 0, 0, 0, 0, 4, 0x4C, 0, 9, 0x83] := by decide

/-- Event 1 of section 8.6: the writer takes class 4 for 70A0h. -/
theorem test_noticeWriteStart : ∃ t, exec .noticeWriteStart notices = .next t
    ∧ t.notice.writer = some noticeWrite ∧ t.notice.classes[4] = ⟨0, none, 0, false, false⟩
    ∧ noticeWrite.count = 3 ∧ noticeWrite.burst = .write 0x70A0
      ((noticeEntry 4 3 ⟨.abandoned, some 12, some 7, some 3, none, 1100⟩ 0b1001 5).map full) :=
  ⟨_, rfl, by decide, by decide, by decide, by decide⟩

/-- Events 3 and 4 of section 8.6: the repeat, then HALTED with the count back. -/
theorem test_noticeWrite_fails :
    (∃ t, exec (.memoryResponse .error (Vector.replicate 32 0)) (noticeInMemory false) = .next t
      ∧ t.notice.state = .running ∧ t.notice.writer = some { noticeWrite with repeated := true })
    ∧ ∃ t, exec (.memoryResponse .error (Vector.replicate 32 0)) (noticeInMemory true) = .next t
      ∧ t.notice.state = .halted ∧ t.notice.writer = none ∧ t.notice.classes[4]
          = ⟨4, some ⟨.committed, some 12, some 2, some 8, some 42, 1400⟩, 0b1001, false, false⟩
      ∧ t.notice.ntfAsserted = true ∧ t.notice.fltAsserted = true :=
  ⟨⟨_, rfl, by decide, by decide⟩, _, rfl, by decide, by decide, by decide, by decide, by decide⟩

/-- Event 5 of section 8.6: 5 acknowledges both entries; 6 is out of range. -/
theorem test_observe : (noticeUnit.observe 5).consumed = 5 ∧ (noticeUnit.observe 5).inFlight = []
    ∧ (noticeUnit.observe 5).classes[9].inFlight = false ∧ (noticeUnit.observe 5).ntfAsserted = false
    ∧ noticeUnit.observe 6 = { noticeUnit with ackRange := true } := by decide

/-- Section 9.4: a hold that started in tick 4000 under a hold timeout of 60 expires as tick 4100 closes. -/
theorem test_hold_expires : Timer.close ⟨100, none⟩ 250 4100 = ⟨101, none⟩ ∧ Timer.close ⟨100, none⟩ 60 4100 = ⟨101, some 4100⟩ := by
  decide

/-! ### One step of each event -/

theorem test_pinReset : after .pinReset notices = some { State.reset with rstN := false } := by decide
theorem test_pinResetRelease : after .pinResetRelease { State.reset with rstN := false } = some State.reset := by decide

theorem test_requestTaken : after (.requestTaken 6 0x10038 (.read 1)) (part table)
    = some (holding (part table) (fresh 0x10038 (.read 1) .waiting)) := by decide

/-- A request over a 64-byte boundary is answered at once. -/
theorem test_requestTaken_crossing : ∃ t, exec (.requestTaken 6 0x10038 (.read 2)) State.reset = .next t
    ∧ t.queues[6] = [⟨0, 0x10038, .read 2, .done, 0, [.answered .refused 0, .answered .refused 0], none, none⟩]
    ∧ t.transit = [.event 0 ⟨.refused, none, none, some 6, none, 0⟩] := ⟨_, rfl, by decide, by decide⟩

theorem test_entryStart : after (.entryStart 6) (holding State.reset (fresh 0x8 (.read 1) .waiting))
    = some (holding State.reset (fresh 0x8 (.read 1) .inProgress)) := by decide

/-- A pass-through read of one word is handed to the DIRECT requester. -/
theorem test_routeWord_passThrough : ∃ t, exec (.routeWord 6) (holding State.reset (fresh 0x8 (.read 1) .inProgress)) = .next t
    ∧ t.port.direct[6] = [.passThrough (.read 0x8 1) [⟨6, 0, 0⟩]] := ⟨_, rfl, by decide⟩

/-- The first write of a record opens slot 0 and is answered OK. -/
theorem test_routeWord_opens :
    ∃ t, exec (.routeWord 6) (holding (part table) (fresh 0x10000 (.write [full 7]) .inProgress)) = .next t
      ∧ t.staging[0] = .filling (gather 0 [7]) ⟨0, none⟩ ∧ (t.queues[6].map (·.state)) = [.done] :=
  ⟨_, rfl, by decide, by decide⟩

theorem test_responseReturn : after (.responseReturn 6)
      (holding State.reset ⟨0, 0x8, .read 1, .done, 1, [.answered .ok 5], none, none⟩)
    = some { State.reset with lastResponse := some ⟨6, .ok, some [5]⟩ } := by decide

/-- The one pass-through burst is granted and takes the first place of the outstanding list. -/
theorem test_portGrant : ∃ t, exec .portGrant (waitingDirect State.reset (.passThrough (.read 0x8 1) [⟨6, 0, 0⟩])) = .next t
    ∧ t.port.outstanding = [⟨.direct, .read 0x8 1, .words [⟨6, 0, 0⟩]⟩] ∧ t.port.lastServed = 6
    ∧ t.port.rotation = [.notice, .commit, .load, .direct] := ⟨_, rfl, by decide, by decide, by decide⟩

theorem test_tickClose : ∃ t, exec .tickClose State.reset = .next t ∧ t.timeBase = { TimeBase.reset with counter := 1 } :=
  ⟨_, rfl, by decide⟩

theorem test_setTimers : reply State.reset (.setTimers 0 250 0) = some [2, 0xFE] ∧ reply State.reset (.setTimers 1 1 0) = some [0, 0] := by
  decide

theorem test_setRing : reply State.reset (.setRing 0x7000 8 0x7200 0) = some [0, 0]
    ∧ reply State.reset (.setRing 0x7080 8 0x7200 0) = some [2, 0xFE] ∧ reply notices (.setRing 0x7000 8 0x7200 0) = some [3, 0xFD] := by
  decide

theorem test_setClasses : reply State.reset (.setClasses 1 0xFF00) = some [0, 0] ∧ reply State.reset (.setClasses 2 0) = some [2, 0xFE] := by
  decide

theorem test_restartNotices : reply notices .restartNotices = some [3, 0xFD] := by decide

theorem test_setPort : reply State.reset (.setPort 0) = some [0, 0] ∧ reply State.reset (.setPort 2) = some [2, 0xFE] := by decide

/-- PUT_WINDOW of section 2.2's window into window 3, then into one that is not OFF, then with a bad size. -/
theorem test_putWindow : reply State.reset (.putWindow 3 0x10000 8 100 4 1 1 2 0) = some [0, 0]
    ∧ reply (part table) (.putWindow 3 0x10000 8 100 4 1 1 2 0) = some [3, 0xFD]
    ∧ reply State.reset (.putWindow 3 0x10000 7 100 4 1 1 2 0) = some [2, 0xFE]
    ∧ reply State.reset (.putWindow 32 0x10000 8 100 4 1 1 2 0) = some [2, 0xFE] := by decide

/-- Before any PUT_WINDOW the record size is 0 (R195); then a legal window, and one off its record boundary. -/
theorem test_enableWindow : reply State.reset (.enableWindow 3) = some [2, 0xFE]
    ∧ reply (part { table with state := .off }) (.enableWindow 3) = some [0, 0]
    ∧ reply (part { table with state := .off, base := 0x10008 }) (.enableWindow 3) = some [2, 0xFE] := by decide

theorem test_disableWindow : ∃ t, exec (.disableWindow 3 0xDA) (part table) = .next t
    ∧ t.windows[3].state = .off ∧ t.transit = [.event 2 ⟨.drained, some 3, none, none, none, 0⟩] :=
  ⟨_, rfl, by decide, by decide⟩

theorem test_reopenWindow : reply (part { stream with state := .closed, cursor := 4 }) (.reopenWindow 3) = some [0, 0]
    ∧ reply (part stream) (.reopenWindow 3) = some [3, 0xFD] := by decide

theorem test_flushWindow : ∃ t, exec (.flushWindow 3 0xD8) (withStaging (part table) 5 (.filling (gather 9 [7]) ⟨0, none⟩)) = .next t
    ∧ t.staging[5] = .free
    ∧ t.transit = [.event 2 ⟨.abandoned, some 3, some 9, some 6, none, 0⟩, .slotFreed 3 none] :=
  ⟨_, rfl, by decide, by decide⟩

/-- CLEAR of a quiet part, and the end of CLEARING. -/
theorem test_clear : after (.clear 0xA0) State.reset = some { State.reset with partState := .clearing, link := ⟨some [0, 0], false⟩ }
    ∧ after .clearingEnd { State.reset with partState := .clearing } = some State.reset := by decide

/-- An unknown command is answered BAD_FRAME, and a cut frame not at all. -/
theorem test_frames : after (.unknownCommand 0 0) State.reset = some { State.reset with link := ⟨some [1, 0xFF], false⟩ }
    ∧ after .frameCut { State.reset with link := ⟨some [0], false⟩ } = some State.reset := by decide

/-! ### Hand-overs, in both orders -/

/-- An event of window 3 to class 2. -/
def abandoned : Event := ⟨.abandoned, some 3, some 9, some 6, none, 0⟩

/-- The part with class 2 at a count of 5, and hand-overs in transit. -/
def crossing (s : State) (l : List HandOver) : State :=
  (s.setNotice { s.notice with classes := s.notice.classes.set 2 ⟨5, some abandoned, 8, true, false⟩ }).setTransit l

/-- PIN_RESET_RELEASE with RST_N high: the first holds the hand-overs back, each further one takes the oldest; with none in
transit it does nothing. -/
theorem test_oneHandOver :
    (let s := crossing State.reset [.event 2 abandoned, .event 2 abandoned]
     after .pinResetRelease s = some (s.setHeldBack true)
      ∧ (after .pinResetRelease (s.setHeldBack true)).map (fun t => (t.notice.classes[(2 : ClassId)].pending, t.transit))
        = some (6, [.event 2 abandoned]))
    ∧ after .pinResetRelease State.reset = some State.reset := by decide

/-- An event raised before CLEAR that reaches its class before it is zeroed with the class; one that is held back reaches
it after CLEAR and is counted (R164, R173, R187). -/
theorem test_clear_and_event :
    (∃ t, exec (.clear 0xA0) (crossing State.reset [.event 2 abandoned]) = .next t
      ∧ t.notice.classes[2].pending = 0 ∧ t.transit = [])
    ∧ ∃ t, exec (.clear 0xA0) ((crossing State.reset [.event 2 abandoned]).setHeldBack true) = .next t
      ∧ t.notice.classes[2].pending = 0 ∧ t.transit = [.event 2 abandoned] ∧ t.heldBack = false
      ∧ ∃ u, exec .portGrant t = .next u ∧ u.notice.classes[2] = ⟨1, some abandoned, 8, true, false⟩ :=
  ⟨⟨_, rfl, by decide, by decide⟩, _, rfl, by decide, by decide, by decide, _, rfl, by decide⟩

/-- An event of window 12 to class 4. -/
def committed : Event := ⟨.committed, some 12, some 2, some 8, some 42, 1400⟩

/-- Section 8.6's unit with class 4 empty and two events of one step on their way to it. -/
def arriving : State :=
  (notices.setNotice { noticeUnit with classes := noticeUnit.classes.set 4 ⟨0, none, 0, false, false⟩ }).setTransit
    [.event 4 committed, .event 4 abandoned]

/-- R150, R152: the writer builds with the first of two events, whose count it carries, and the second is counted afresh;
with both counted before the test it carries two. -/
theorem test_noticeWriteStart_first_event :
    (∃ t, exec .noticeWriteStart arriving = .next t ∧ (t.notice.writer.map fun w => (w.count, w.first)) = some (1, committed)
      ∧ t.notice.classes[4] = ⟨1, some abandoned, 8, false, false⟩ ∧ t.transit = [])
    ∧ ∃ t, exec .portGrant arriving = .next t ∧ ∃ u, exec .noticeWriteStart t = .next u
      ∧ (u.notice.writer.map fun w => (w.count, w.first)) = some (2, committed) ∧ u.notice.classes[4].pending = 0 :=
  ⟨⟨_, rfl, by decide, by decide, by decide⟩, _, rfl, _, rfl, by decide, by decide⟩

/-- The instant after the window-3 commit of reservation 5 has freed its slot, the release still on its way. -/
def releasing : State :=
  (State.reset.setInterlock ⟨[⟨5, .commit 0, [⟨3, 0⟩], true, true, .write 0x10000 []⟩], []⟩).setTransit [.release 5, .slotFreed 3 none]

/-- R182's example: GET_STATUS before the release counts the slot as FREE and the reservation as held, and the release is
taken after it; GET_STATUS after the release counts neither. -/
theorem test_getStatus_and_release :
    reply (releasing.setHeldBack true) .getStatus = some (List.replicate 14 0 ++ [1, 0, 0, 0, 0, 0, 0xFF])
    ∧ (∃ t, exec (.getStatus 0xF0) (releasing.setHeldBack true) = .next t ∧ t.transit = [.release 5, .slotFreed 3 none]
      ∧ ∃ u, exec .portGrant t = .next u ∧ u.interlock.table = [])
    ∧ reply releasing .getStatus = some (List.replicate 21 0) :=
  ⟨by decide, ⟨_, rfl, by decide, _, rfl, by decide⟩, by decide⟩

/-- A write held for NO_STAGING in a DRAINING window, whose last slot has just been freed. -/
def draining : State :=
  (holding (part { table with state := .draining }) (fresh 0x10000 (.write [full 7])
    (.held ⟨.noStaging, ⟨3, 0⟩, 0, ⟨0, none⟩, .owed⟩))).setTransit [.slotFreed 3 none]

/-- R41, the freeing of a DRAINING window's last slot: with the restart first the word holds for DRAINING, and the drain
completion then restarts it; with the drain first the window is OFF and the word passes through. -/
theorem test_restart_and_drain :
    (∃ t, exec (.restart 6) (draining.setHeldBack true) = .next t ∧ t.windows[3].state = .draining
      ∧ (t.queues[6].map (·.state)) = [.held ⟨.draining, ⟨3, 0⟩, 0, ⟨0, none⟩, .none⟩]
      ∧ t.transit = [.slotFreed 3 none]
      ∧ ∃ u, exec .portGrant t = .next u ∧ u.windows[3].state = .off ∧ u.notice.classes[2].pending = 1
        ∧ (u.queues[6].map (·.state)) = [.held ⟨.draining, ⟨3, 0⟩, 0, ⟨0, none⟩, .owed⟩])
    ∧ ∃ t, exec (.restart 6) draining = .next t ∧ t.windows[3].state = .off ∧ t.notice.classes[2].pending = 1
      ∧ t.port.direct[6] = [.passThrough (.write 0x10000 [full 7]) [⟨6, 0, 0⟩]] :=
  ⟨⟨_, rfl, by decide, by decide, by decide, _, rfl, by decide, by decide, by decide⟩, _, rfl, by decide, by decide, by decide⟩

/-- R166: a drain check held back past a tick close reads the tick in which it is taken, and one that follows from an expiry
the tick of that close. -/
theorem test_drain_after_tick_close :
    let drainedAt (closing : Option Tick) : Option (Option Tick) :=
      ((after .tickClose ((draining.setTransit [.slotFreed 3 closing]).setHeldBack true)).bind (after .portGrant)).map
        fun t => t.notice.classes[(2 : ClassId)].first.map (·.time)
    drainedAt none = some (some 1) ∧ drainedAt (some 0) = some (some 0) := by decide

/-- R169: a FILLING slot that has reached its timeout expires with the close of its tick alone, and ABANDONED carries that
tick. -/
theorem test_expiry_with_its_close :
    let s := (withStaging (part table) 0 (.filling (gather 0 []) ⟨1000, none⟩)).setTimeBase { TimeBase.reset with counter := 1000 }
    after (.gatherTimeout 0) s = some s
    ∧ ((after .tickClose s).bind (after (.gatherTimeout 0))).map (fun t => (t.staging[(0 : Fin 16)], t.transit))
      = some (.free, [.event 2 ⟨.abandoned, some 3, some 0, some 6, none, 1000⟩, .slotFreed 3 (some 1000)]) := by decide

/-- A frame begun while RST_N is low gets no response, and is discarded when RST_N has gone high; the next is taken
(R180). -/
theorem test_frame_across_release :
    after (.setPort 0 0xB0) (State.reset.pinValues false) = some { State.reset with rstN := false, link := ⟨none, true⟩ }
    ∧ after .pinResetRelease { State.reset with rstN := false, link := ⟨none, true⟩ } = some { State.reset with link := ⟨none, true⟩ }
    ∧ after (.setPort 0 0xB0) { State.reset with link := ⟨none, true⟩ } = some State.reset
    ∧ after .frameCut { State.reset with rstN := false, link := ⟨none, true⟩ } = some { State.reset with rstN := false } := by decide

/-- MISO in SET_CLOCK's frame: FFh in its four byte times, status and check, FFh (R176). -/
theorem test_miso : (List.range 8).map (fun k => (⟨some [0, 0], false⟩ : Link).miso 4 (k + 1))
    = [0xFF, 0xFF, 0xFF, 0xFF, 0, 0, 0xFF, 0xFF] := by decide

/-- R166: tick 4 has closed with the hold of queue 6's first entry expired. The entry behind it starts as part of that
close: its first word opens a slot with open time 4, in tick 5. -/
theorem test_expiry_starts_at_close :
    let s := (part table).setTimeBase { TimeBase.reset with counter := 5 }
    let blocked := fresh 0x10000 (.write [full 7]) (.held ⟨.noStaging, ⟨3, 0⟩, 0, ⟨1, some 4⟩, .none⟩)
    let next := { fresh 0x10040 (.write [full 8, full 9]) .waiting with tag := 1 }
    (∃ t, exec (.holdExpiry 6) (s.withQueue 6 [] blocked [next]) = .next t
      ∧ (t.queues[6].map fun e => (e.state, e.closing)) = [(.done, none), (.waiting, some 4)])
    ∧ ∃ t, exec (.routeWord 6) (s.withQueue 6 [] { next with state := .inProgress, closing := some 4 } []) = .next t
      ∧ t.staging[0] = .filling { gather 1 [8] with openTime := 4 } ⟨1, none⟩ :=
  ⟨⟨_, rfl, by decide⟩, _, rfl, by decide⟩

/-- Slot 0 frees and is taken by the commit of another record while the release of the first reservation is held back: at
CLEAR the second commit has issued nothing (R64). -/
theorem test_clear_beside_a_late_release :
    let s := withStaging releasing 0 (.committing (gather 1 [7]) ⟨⟨6, 0, 0⟩, false, some 2⟩)
    let s := (s.setInterlock ⟨s.interlock.table ++ [⟨0, .commit 0, [⟨3, 1⟩], false, false, .write 0x10040 []⟩], []⟩).setHeldBack true
    ∃ t, exec (.clear 0xA0) s = .next t ∧ t.staging[0] = .free ∧ (t.interlock.table.map (·.records)) = [[⟨3, 0⟩]]
      ∧ ∃ u, exec .clearingEnd (t.setHeldBack true) = .next u ∧ u.interlock.table = [] ∧ u.partState = .running :=
  ⟨_, rfl, by decide, by decide, _, rfl, by decide, by decide⟩

/-! ### States that meet the hypotheses of the statements, clause by clause -/

/-- CommandsLeaveQueueAndResetAlone, WellFormedCommandsComplete: a command that answers, and one that does not. -/
theorem witness_commands : (∃ t, exec .portGrant State.reset = .next t ∧ Instr.portGrant ≠ .pinReset ∧ Instr.portGrant ≠ .pinResetRelease)
    ∧ Instr.wellFormed (.requestTaken 6 0x38 (.read 8)) = true ∧ Instr.wellFormed (.requestTaken 6 0 (.read 9)) = false :=
  ⟨⟨_, rfl, by decide, by decide⟩, by decide, by decide⟩

/-- CommandsLeaveQueueAndResetAlone: an event, a frame and a cut frame while RST_N is low. -/
theorem witness_resetLow : (State.pinValues State.reset false).rstN = false ∧ Instr.wellFormed .tickClose = true
    ∧ Instr.tickClose ≠ .pinReset ∧ Instr.tickClose ≠ .pinResetRelease ∧ Instr.wellFormed (.clear 0) = true
    ∧ encodeFrame (.clear 0) ≠ [] ∧ Instr.wellFormed .frameCut = true := by decide

/-- HandOversAreTakenInOrder: a command and an empty queue with hand-overs in transit, taken first or held back. -/
theorem witness_handOvers : draining.rstN = true ∧ draining.heldBack = false ∧ (draining.setHeldBack true).heldBack = true
    ∧ Instr.restart 6 ≠ .pinReset ∧ Instr.restart 6 ≠ .pinResetRelease ∧ Instr.restart 6 ≠ .noticeWriteStart
    ∧ Instr.wellFormed (.restart 6) = true ∧ draining.transit = .slotFreed 3 none :: [] ∧ draining.pending = [] := by decide

/-- PinResetTakesEveryResetValue: RST_N low, and RST_N high with nothing in transit. -/
theorem witness_release : (State.reset.pinValues false).rstN = false ∧ State.reset.rstN = true ∧ State.reset.transit = [] := by decide

/-- FramesDecodeToTheirCommand. -/
theorem witness_framesDecode : Instr.wellFormed (.setTimers 1000 250 2000 0) = true ∧ encodeFrame (.setTimers 1000 250 2000 0) ≠ []
    ∧ 7 < (encodeFrame (.setTimers 1000 250 2000 0)).length := by decide

/-- FramesAreCheckedBeforeTheirRule: damaged, CLEARING, a window number of 32, a class number of 16, an unknown code. -/
theorem witness_framesChecked :
    (linkCommandTerm (.setClock 200 6) = true ∧ byteSum (encodeFrame (.setClock 200 6)) ≠ 0)
    ∧ (byteSum (encodeFrame (.clear 0xA0)) = 0 ∧ (State.reset.setPartState .clearing).partState = .clearing ∧ State.reset.linkTakes ∧ ∀ k, Instr.clear 0xA0 ≠ .getStatus k)
    ∧ (State.reset.linkOpen (encodeFrame (.getWindow 32 0xC0)) ∧ 31 < (32 : Byte).toNat)
    ∧ (State.reset.linkOpen (encodeFrame (.getClass 16 0xAE)) ∧ 15 < (16 : Byte).toNat) ∧ (0x61 : Byte) ∉ knownCodes
    ∧ (({ State.reset with link := ⟨none, true⟩ } : State).taking ∧ encodeFrame (.unknownCommand 0x61 0) ≠ []) := by
  refine ⟨by decide, ⟨by decide, by decide, by decide, fun k => by simp⟩, by decide, by decide, by decide, by decide⟩

/-- MisoCarriesTheResponse: a frame taken, one discarded, one while RST_N is low; the last response byte and the byte
after. -/
theorem witness_miso : (Instr.wellFormed (.getStatus 0) = true ∧ encodeFrame (.getStatus 0) ≠ [] ∧ State.reset.linkTakes)
    ∧ (∃ t, exec (.getStatus 0) State.reset = .next t)
    ∧ (({ State.reset with link := ⟨none, true⟩ } : State).taking ∧ (State.reset.pinValues false).rstN = false)
    ∧ ([0, 0] : List Byte)[1]? = some 0 ∧ 4 + ([0, 0] : List Byte).length < 7 := by
  refine ⟨by decide, ⟨_, rfl⟩, by decide, by decide, by decide⟩

/-- GetStatusReportsAndClearsAckRange, GetCommandsReturnTheirRecord: the last window and the last class. -/
theorem witness_get : byteSum [0x10, 0xF0] = 0 ∧ State.reset.linkTakes ∧ State.reset.linkOpen [0x20, BitVec.ofNat 8 (31 : WindowId).val, 0xC1]
    ∧ State.reset.linkOpen [0x42, BitVec.ofNat 8 (15 : ClassId).val, 0xAF] := by decide

/-- SetCommandsTakeTheirArguments: open frames on both sides of every bound, and a tick that closes at once. -/
theorem witness_set : (State.reset.linkOpen (encodeFrame (.setTimers 1 0 0 0xCF)) ∧ State.reset.linkOpen (encodeFrame (.setTimers 1 1 0 0xCE)))
    ∧ (State.reset.linkOpen (encodeFrame (.setPort 1 0xAF)) ∧ State.reset.linkOpen (encodeFrame (.setPort 2 0xAE)))
    ∧ (State.reset.linkOpen (encodeFrame (.setClasses 1 0 0xBE)) ∧ State.reset.linkOpen (encodeFrame (.setClasses 2 0 0xBD)))
    ∧ (State.reset.linkOpen (encodeFrame (.setClock 20 0xBB)) ∧ State.reset.linkOpen (encodeFrame (.setClock 19 0xBC)))
    ∧ (State.reset.linkOpen (encodeFrame (.setClock 400 0x3E)) ∧ State.reset.linkOpen (encodeFrame (.setClock 401 0x3D)))
    ∧ (State.reset.setTimeBase { TimeBase.reset with position := 20 }).linkOpen (encodeFrame (.setClock 20 0xBB)) := by
  refine ⟨?_, ?_, ?_, ?_, ?_, ?_⟩ <;> decide

/-- SetRingChecksThenStarts: entries in flight; a capacity of 4 whose ring ends the address space, allowed; one of 5, not.
-/
theorem witness_setRing :
    (notices.linkOpen (encodeFrame (.setRing 0x7000 8 0x7200 0 (checkOf (.setRing 0x7000 8 0x7200 0)))) ∧ notices.notice.inFlight ≠ [])
    ∧ (State.reset.linkOpen (encodeFrame (.setRing 0xFFFFFFFF80 4 0xFFFFFFFF78 15 (checkOf (.setRing 0xFFFFFFFF80 4 0xFFFFFFFF78 15))))
      ∧ State.reset.notice.inFlight = [] ∧ State.reset.notice.writer = none ∧ (4 : Byte).toNat ∈ [4, 8, 16]
      ∧ (0xFFFFFFFF80 : Addr).toNat % (32 * 4) = 0 ∧ (0xFFFFFFFF80 : Addr).toNat + 32 * 4 ≤ 2 ^ 40
      ∧ (0xFFFFFFFF78 : Addr).toNat % 8 = 0 ∧ (0xFFFFFFFF78 : Addr).toNat < (0xFFFFFFFF80 : Addr).toNat
      ∧ ∀ w : WindowId, State.reset.windows[w].state = .off)
    ∧ (State.reset.linkOpen (encodeFrame (.setRing 0 5 8 15 (checkOf (.setRing 0 5 8 15)))) ∧ (5 : Byte).toNat ∉ [4, 8, 16]) := by
  decide

/-- RestartNoticesLeavesHalted: HALTED, another state, and CLEARING. -/
theorem witness_restartNotices : (notices.setNotice { noticeUnit with state := .halted }).linkOpen [0x43, 0xBD]
    ∧ (notices.linkOpen [0x43, 0xBD] ∧ notices.notice.state ≠ .halted)
    ∧ ((notices.setPartState .clearing).linkTakes ∧ (notices.setPartState .clearing).partState = .clearing) := by decide

/-- PutWindowTakesAllOrNothing: window 31 that is OFF with valid and invalid fields, and window 3 that is not. -/
theorem witness_putWindow :
    (State.reset.linkOpen (encodeFrame (.putWindow 31 8 32 4096 15 0 0 15 15 (checkOf (.putWindow 31 8 32 4096 15 0 0 15 15))))
      ∧ State.reset.windows[(31 : WindowId)].state = .off ∧ (32 : Byte).toNat ∈ [2, 4, 8, 16, 32] ∧ (4096 : BitVec 16).toNat ≤ 4096
      ∧ (8 : Addr).toNat % 8 = 0 ∧ (15 : Byte).toNat < 16)
    ∧ (State.reset.linkOpen (encodeFrame (.putWindow 31 8 32 4097 15 0 0 15 15 (checkOf (.putWindow 31 8 32 4097 15 0 0 15 15))))
      ∧ ¬ (4097 : BitVec 16).toNat ≤ 4096)
    ∧ ((part table).linkOpen (encodeFrame (.putWindow 3 8 2 1 0 0 0 0 0 (checkOf (.putWindow 3 8 2 1 0 0 0 0 0))))
      ∧ (part table).windows[(3 : WindowId)].state ≠ .off) := by decide

/-- EnableWindowChecksGeometry: not OFF; a record count of 0; a legal window alone; and with a write into it waiting. -/
theorem witness_enableWindow :
    ((part table).linkOpen [0x22, 3, 0xDB] ∧ (part table).windows[(3 : WindowId)].state ≠ .off)
    ∧ (State.reset.linkOpen [0x22, 3, 0xDB] ∧ State.reset.windows[(3 : WindowId)].state = .off
      ∧ ¬ 1 ≤ State.reset.windows[(3 : WindowId)].recordCount)
    ∧ ((part { table with state := .off }).linkOpen [0x22, 3, 0xDB]
      ∧ (part { table with state := .off }).enableAllowed 3 = true ∧ (part { table with state := .off }).writeWaits table = false)
    ∧ ((part { table with state := .off }).enableAllowed 3 = true
      ∧ (waitingDirect (part { table with state := .off }) (.passThrough (.write 0x118F8 [full 1]) [])).writeWaits table = true)
    ∧ (holding (part { table with state := .off }) { fresh 0x118F8 (.write [full 1, full 2]) .inProgress with
        position := 1, run := some ⟨none, 0, 1, []⟩ }).writeWaits table = true := by decide

/-- DisableWindowDrains: each state, with and without a slot. -/
theorem witness_disableWindow :
    (State.reset.linkOpen [0x23, 3, 0xDA] ∧ State.reset.windows[(3 : WindowId)].state = .off)
    ∧ (part { table with state := .draining }).linkOpen [0x23, 3, 0xDA]
    ∧ ((part table).linkOpen [0x23, 3, 0xDA] ∧ (part table).windows[(3 : WindowId)].state = .active ∧ (part table).ownsSlot 3 = false)
    ∧ ((withStaging (part table) 15 (.filling (gather 0 []) ⟨0, none⟩)).linkOpen [0x23, 3, 0xDA]
      ∧ ∃ r ∈ (withStaging (part table) 15 (.filling (gather 0 []) ⟨0, none⟩)).staging[(15 : Fin 16)].target, r.window = 3) := by
  refine ⟨by decide, by decide, by decide, by decide, _, rfl, rfl⟩

/-- ReopenWindowRestartsTheCursor, FlushWindowAbandonsFillingSlots: every clause of each. -/
theorem witness_reopen_flush :
    ((part { stream with state := .closed, cursor := 4 }).linkOpen [0x24, 3, 0xD9]
      ∧ (part { stream with state := .closed, cursor := 4 }).windows[(3 : WindowId)].state = .closed)
    ∧ ((part stream).linkOpen [0x24, 3, 0xD9] ∧ (part stream).windows[(3 : WindowId)].state ≠ .closed)
    ∧ ((part table).linkOpen [0x24, 3, 0xD9] ∧ (part table).windows[(3 : WindowId)].cursorLawful
      ∧ (part table).windows[(3 : WindowId)].kind = .table)
    ∧ (State.reset.linkOpen [0x25, 3, 0xD8] ∧ State.reset.windows[(3 : WindowId)].state = .off)
    ∧ ((withStaging (part table) 0 (.filling (gather 0 []) ⟨0, none⟩)).linkOpen [0x25, 3, 0xD8]
      ∧ (part table).windows[(3 : WindowId)].state ≠ .off) := by decide

/-- RequestsJoinTheirQueue: a request that ends at the 64-byte boundary, and a queue that is full. -/
theorem witness_requests : 1 ≤ (Transfer.read 8).length ∧ (Transfer.read 8).length ≤ 8 ∧ (0xFFFFFFFFC0 : Addr).toNat % 8 = 0
    ∧ State.reset.taking ∧ State.reset.partState = .running ∧ State.reset.queues[(6 : Initiator)].length < 4
    ∧ 4 ≤ (State.reset.setQueues (Vector.replicate 16 (List.replicate 4 (fresh 0 (.read 1) .waiting)))).queues[(6 : Initiator)].length := by
  decide

/-- OldestWaitingEntryStarts: a WAITING entry behind one that has routed its words, and an entry that still routes. -/
theorem witness_entryStart :
    let older := [{ fresh 0 (.read 1) .inProgress with position := 1 }, fresh 0 (.read 1) .done]
    let s := State.reset.withQueue 6 older (fresh 8 (.read 1) .waiting) []
    (s.taking ∧ s.queues[(6 : Initiator)] = older ++ fresh 8 (.read 1) .waiting :: [])
    ∧ (∀ x ∈ older, x.state = .done ∨ (x.state = .inProgress ∧ x.position = x.transfer.length)) ∧ (∀ x ∈ older, x.state ≠ .waiting)
    ∧ ((fresh 8 (.read 1) .inProgress).state = .inProgress ∧ (fresh 8 (.read 1) .inProgress).position ≠ 1) := by decide

/-- A hold of a word of window 3 with a timer and a restart. -/
def hold (timer : Timer) (restart : RestartDue) : Hold := ⟨.noStaging, ⟨3, 0⟩, 0, timer, restart⟩

/-- The part with a held write to record 0 of window 3. -/
def held (timer : Timer) (restart : RestartDue) : Entry := fresh 0x10000 (.write [full 7]) (.held (hold timer restart))

/-- HoldExpiryAnswersTheRest: a timer that a tick close has expired, and one that has reached its timeout in the tick that is
to close. -/
theorem witness_holdExpiry : (holding (part table) (held ⟨251, some 249⟩ .none)).queueIs 6 [] (held ⟨251, some 249⟩ .none) []
    ∧ (holding (part table) (held ⟨251, some 249⟩ .none)).taking
    ∧ (held ⟨251, some 249⟩ .none).state = .held (hold ⟨251, some 249⟩ .none)
    ∧ (hold ⟨250, none⟩ .none).timer.expired = none := by decide

/-- ResponsesLeaveInOrder: a DONE entry with two codes, and a head that is not DONE. -/
theorem witness_responses :
    ((holding State.reset ⟨0, 0, .read 2, .done, 2, [.answered .ok 5, .answered .memError 0], none, none⟩).queuesSound
      ∧ (holding State.reset ⟨0, 0, .read 2, .done, 2, [.answered .ok 5, .answered .memError 0], none, none⟩).taking) ∧
    (holding State.reset ⟨0, 0, .read 2, .done, 2, [.answered .ok 5, .answered .memError 0], none, none⟩).queues[(6 : Initiator)]
      = ⟨0, 0, .read 2, .done, 2, [.answered .ok 5, .answered .memError 0], none, none⟩ :: []
    ∧ (holding State.reset (fresh 0 (.read 2) .waiting)).queues[(6 : Initiator)] = fresh 0 (.read 2) .waiting :: []
    ∧ (fresh 0 (.read 2) .waiting).state ≠ .done := by decide

/-- AddressesAreMatched: the last word of the window, the word above it, and that window's geometry. -/
theorem witness_addresses : (part table).windowsApart
    ∧ ((part table).windows[(3 : WindowId)].state ≠ .off ∧ table.base.toNat ≤ 0x118F8
      ∧ 0x118F8 < table.base.toNat + 8 * table.recordWords * table.recordCount)
    ∧ (∀ w : WindowId, (part table).windows[w].state ≠ .off → ¬ ((part table).windows[w].base.toNat ≤ 0x11900
        ∧ 0x11900 < (part table).windows[w].base.toNat + 8 * (part table).windows[w].recordWords * (part table).windows[w].recordCount))
    ∧ (99 < table.recordCount ∧ 7 < table.recordWords ∧ table.base.toNat + 8 * table.recordWords * table.recordCount ≤ 2 ^ 40) := by
  refine ⟨by decide +kernel, by decide, by decide, by decide⟩

/-- The entry of queue 6 routes its next word. -/
theorem routes (s : State) (e : Entry) (h : s.taking ∧ e.state = .inProgress ∧ e.position < e.transfer.length) :
    (holding s e).routesNext 6 [] e [] :=
  ⟨h.1, ⟨by simp [holding, State.withQueue], by simp⟩, by simp, h.2.1, h.2.2⟩

/-- The routing entries of the witnesses: one word, or the second of two. -/
def reads (a : Addr) : Entry := fresh a (.read 1) .inProgress
def writes (a : Addr) (d : Word) : Entry := fresh a (.write [full d]) .inProgress

theorem witness_routes : (holding (part table) (reads 0x10000)).routesNext 6 [] (reads 0x10000) []
    ∧ (holding (part table) (writes 0x10000 7)).routesNext 6 [] (writes 0x10000 7) [] ∧ (reads 0x10000).run = none
    ∧ (writes 0x10000 7).run = none :=
  ⟨routes _ _ (by decide), routes _ _ (by decide), rfl, rfl⟩

/-- RefusedWordHasNoEffect: each check that refuses. -/
theorem witness_refused : (part table).matchWindow ((reads 0x10000).wordAddress 0) = some 3
    ∧ (part { table with readerSet := 0xFFBF }).windows[(3 : WindowId)].readerSet.getLsbD 6 = false
    ∧ ({ table with writerSet := 0xFFBF } : Window).writerSet.getLsbD 6 = false ∧ (WriteWord.mk 1 0x7F).lanes ≠ 0xFF
    ∧ ({ table with stamps := true } : Window).offsetOf 0x10038 = table.recordWords - 1
    ∧ ({ stream with state := .closed, cursor := 4 } : Window).state = .closed
    ∧ (stream.kind = .stream ∧ stream.recordOf 0x10010 ≠ stream.cursor) := by decide

/-- The read of a word of record 0 of window 3 is a direct window read: without snapshots, and beside none of the
reader's. -/
theorem directs : (part table).directRead 6 (reads 0x10000) ⟨3, 0⟩ ∧ (part shot).directRead 6 (reads 0x10008) ⟨3, 0⟩ := by
  refine ⟨⟨by decide, by decide, ⟨_, rfl⟩, by decide, .inl (by decide)⟩,
    by decide, by decide, ⟨_, rfl⟩, by decide, .inr ⟨by decide, by decide⟩⟩

/-- WordsJoinTheirRunUntilItEnds: a pass-through word; a run of pass-through words that ends at a window's word, and one of
window reads that ends at a lead word that latches. -/
theorem witness_runs : (part table).matchWindow ((reads 0xFFF8).wordAddress 0) = none
    ∧ (let e : Entry := { fresh 0xFFF8 (.read 2) .inProgress with position := 1, run := some ⟨none, 0, 1, []⟩ }
       (holding (part table) e).routesNext 6 [] e [] ∧ (holding (part table) e).matchWindow (e.wordAddress e.position) ≠ none)
    ∧ (let e : Entry := { fresh 0x10038 (.read 2) .inProgress with position := 1, run := some ⟨some 3, 0, 1, [⟨3, 0⟩]⟩ }
       (holding (part shot) e).routesNext 6 [] e []
        ∧ ∀ r : RecordId, r.window = 3 → ¬ (holding (part shot) e).directRead 6 e r) := by
  refine ⟨by decide, ⟨routes _ _ (by decide), by decide⟩, routes _ _ (by decide), ?_⟩
  rintro ⟨w, r⟩ rfl ⟨-, -, -, -, h | h⟩
  · exact absurd (show shot.snapshots = false from h) (by decide)
  · exact (show shot.offsetOf 0x10040 ≠ 0 from h.2) (by decide)

/-- A write of word o of record 0 of window 3 is admitted. -/
theorem admitted (x : Window) (o : Nat) (a : Addr) (d : Word)
    (h : (holding (part x) (writes a d)).matchWindow ((writes a d).wordAddress 0) = some 3
      ∧ 0 = x.recordOf ((writes a d).wordAddress 0) ∧ o = x.offsetOf ((writes a d).wordAddress 0) ∧ x.writerSet.getLsbD 6 = true
      ∧ ¬ (x.stamps = true ∧ o + 1 = x.recordWords) ∧ x.state ≠ .closed ∧ (x.kind = .stream → 0 = x.cursor)) :
    (holding (part x) (writes a d)).writeAdmitted 6 (writes a d) ⟨3, 0⟩ o d := by
  have hx : (holding (part x) (writes a d)).windows[(3 : WindowId)] = x := by simp [holding, State.withQueue, part, State.setWindows]
  simp only [State.writeAdmitted, hx]
  exact ⟨h.1, h.2.1, h.2.2.1, ⟨_, rfl, rfl⟩, h.2.2.2⟩

/-- WritesAreGathered: the first word opens a slot and leaves the record incomplete; the last word of a slot of its own
completes it. -/
theorem witness_gathered :
    ((holding (part stream) (writes 0x10000 7)).writeAdmitted 6 (writes 0x10000 7) ⟨3, 0⟩ 0 7
      ∧ (part stream).noStaging ⟨3, 0⟩ ∧ stream.state = .active ∧ (part stream).staging[(0 : Fin 16)] = .free
      ∧ (gather 0 [7]).words[1] = none)
    ∧ ((holding (part stream) (writes 0x10008 8)).writeAdmitted 6 (writes 0x10008 8) ⟨3, 0⟩ 1 8
      ∧ (withStaging (part stream) 15 (.filling (gather 0 [7]) ⟨0, none⟩)).stagingIs ⟨3, 0⟩ 15
      ∧ ∀ i : Fin 32, i.val < 2 → (gather 0 [7, 8]).words[i] ≠ none) := by
  refine ⟨⟨admitted _ _ _ _ (by decide), by decide, by decide, by decide, by decide⟩, admitted _ _ _ _ (by decide), by decide, by decide⟩

/-- Every staging slot in use by a record of window 4. -/
def fullStaging (s : State) : State :=
  s.setStaging (Vector.ofFn fun i => .filling { gather i.val [] with target := ⟨4, i.val⟩ } ⟨0, none⟩)

/-- Every snapshot slot in use by readers other than 6, four each. -/
def fullSnapshots (s : State) : State :=
  s.setSnapshots (Vector.ofFn fun i => .held { info ⟨4 + i.val % 4, by omega⟩ 0 with reader := ⟨i.val / 4, by omega⟩ } [] (Vector.replicate 32 false))

/-- WordsHoldForTheirReason: the five reasons. -/
theorem witness_holds :
    ((withStaging (part table) 0 (.filling { gather 0 [] with owner := 7 } ⟨0, none⟩)).stagingIs ⟨3, 0⟩ 0
      ∧ { gather 0 [] with owner := 7 }.owner ≠ 6)
    ∧ ((part { table with state := .draining }).noStaging ⟨3, 0⟩
      ∧ (part { table with state := .draining }).windows[(3 : WindowId)].state = .draining)
    ∧ ((fullStaging (part table)).noStaging ⟨3, 0⟩ ∧ ∀ i : Fin 16, (fullStaging (part table)).staging[i] ≠ .free)
    ∧ (shot.snapshots = true ∧ shot.offsetOf 0x10000 = 0 ∧ (part { shot with state := .draining }).noSnapshot 6 (fun y => y == ⟨3, 0⟩))
    ∧ ((∀ i : Fin 24, (fullSnapshots (part shot)).snapshots[i] ≠ .free) ∧ (fullSnapshots (part shot)).noSnapshot 6 (fun y => y == ⟨3, 0⟩)
      ∧ (fullSnapshots (part shot)).noSnapshot 6 (fun y => y.window == 3) ∧ (fullSnapshots (part shot)).slotCount 6 < 4) := by decide

/-- A read of record 0 of window 3 goes to the snapshot unit. -/
theorem witness_snapshotRead : (holding (part shot) (reads 0x10000)).snapshotRead 6 (reads 0x10000) ⟨3, 0⟩ 0
    ∧ (holding (part shot) (reads 0x10038)).snapshotRead 6 (reads 0x10038) ⟨3, 0⟩ 7 := by
  refine ⟨⟨by decide, by decide, by decide, ⟨_, rfl⟩, by decide, by decide⟩, by decide, by decide, by decide, ⟨_, rfl⟩, by decide, by decide⟩

/-- ReadsAreServedFromTheReadersSnapshot: a slot whose last word is read, one with another word left, a LOADING one. -/
theorem witness_served :
    ((withSnapshot (part shot) 23 (.held (info 3 0) [1, 2] (Vector.replicate 32 false))).snapshotIs 6 ⟨3, 0⟩ 23)
    ∧ (∀ k : Fin 32, k.val < 2 → ((((Vector.replicate 32 false).set 0 true).setIfInBounds 1 true)[k] = true))
    ∧ ((Vector.replicate 32 false).setIfInBounds 1 true)[0] = false
    ∧ (withSnapshot (part shot) 0 (.loading (info 3 0) false false [])).snapshotIs 6 ⟨3, 0⟩ 0 := by decide

/-- A slot of another reader, or of another record, is none of the reader's for the record (R90). -/
theorem test_snapshot_of_another :
    (withSnapshot (part shot) 0 (.held { info 3 0 with reader := 7 } [] (Vector.replicate 32 false))).snapshotFor 6 ⟨3, 0⟩ = none
    ∧ (withSnapshot (part shot) 0 (.held (info 4 0) [] (Vector.replicate 32 false))).snapshotFor 6 ⟨3, 0⟩ = none
    ∧ (withStaging (part table) 0 (.filling { gather 0 [] with target := ⟨4, 0⟩ } ⟨0, none⟩)).stagingFor ⟨3, 0⟩ = none := by decide

/-- LeadWordReadLatches: no slot to release; the reader's slot in the window; the oldest of four elsewhere. -/
theorem witness_latches :
    ((part shot).noSnapshot 6 (fun y => y == ⟨3, 0⟩) ∧ (∀ j : Fin 24, (part shot).snapshots[j].info = none)
      ∧ (part shot).slotCount 6 < 4 ∧ (part shot).snapshots[(0 : Fin 24)] = .free)
    ∧ (let s := withSnapshot (part shot) 9 (.held (info 3 1) [] (Vector.replicate 32 false))
       s.noSnapshot 6 (fun y => y == ⟨3, 0⟩) ∧ s.snapshots[(9 : Fin 24)].info = some (info 3 1)
        ∧ (∀ j : Fin 24, j < 9 → s.snapshots[j].info = none) ∧ (s.releaseByLatch 9 s.now).slotCount 6 < 4)
    ∧ (let s := (part shot).setSnapshots (Vector.ofFn fun i : Fin 24 =>
         if h : i.val < 4 then .held { info ⟨8 + i.val, by omega⟩ 0 with useOrder := 4 - i.val } [] (Vector.replicate 32 false) else .free)
       (∀ j : Fin 24, ∀ y ∈ s.snapshots[j].info, y.target.window ≠ 3) ∧ 4 ≤ s.slotCount 6
        ∧ s.snapshots[(3 : Fin 24)].info = some { info 11 0 with useOrder := 1 }
        ∧ (∀ j : Fin 24, ∀ y ∈ s.snapshots[j].info, j ≠ 3 → y.timer.elapsed = 0 ∧ 1 < y.useOrder)
        ∧ (s.releaseByLatch 3 s.now).snapshots[(3 : Fin 24)] = .free)
    ∧ (let s := withSnapshot (part shot) 9 (.loading (info 3 1) false false [⟨⟨6, 0, 0⟩, 0⟩])
       (∃ x ∈ (s.setInterlock ⟨[], [⟨.load 9, [⟨3, 1⟩], .conflict⟩]⟩).interlock.waitList, x.owner = .load 9)
        ∧ ∀ x ∈ s.interlock.waitList, x.owner ≠ .load 9) := by decide +kernel

/-- A latch that releases a LOADING slot: its waiting word becomes a DIRECT that waits behind the load, and the load, in
memory, keeps its reservation without a slot (R94, R105); a LOAD that still waits is withdrawn, and the scan takes the
DIRECT (R74). -/
theorem test_releaseByLatch_loading :
    let s := withSnapshot (part shot) 9 (.loading (info 3 1) false false [⟨⟨6, 0, 0⟩, 0⟩])
    ((s.setInterlock ⟨[⟨5, .load (some 9), [⟨3, 1⟩], true, false, .read 0x10040 8⟩], []⟩).releaseByLatch 9 s.now).interlock
      = ⟨[⟨5, .load none, [⟨3, 1⟩], true, false, .read 0x10040 8⟩], [⟨.direct 6 [⟨6, 0, 0⟩] 0x10040, [⟨3, 1⟩], .conflict⟩]⟩
    ∧ ((s.setInterlock ⟨[], [⟨.load 9, [⟨3, 1⟩], .conflict⟩]⟩).releaseByLatch 9 s.now).interlock
      = ⟨[⟨0, .direct [⟨6, 0, 0⟩], [⟨3, 1⟩], false, false, .read 0x10040 1⟩], []⟩ := by decide

/-- RestartsRouteTheHeldWordAfresh: a word that does not hold again, one that does, a restart owed as part of a close, and
none owed. -/
theorem witness_restarts :
    ((holding (part table) (held ⟨0, none⟩ .owed)).taking ∧ (held ⟨0, none⟩ (.owedAtClose 4)).state = .held (hold ⟨0, none⟩ (.owedAtClose 4))
      ∧ (holding (part table) (held ⟨0, none⟩ (.owedAtClose 4))).routePath 6 (held ⟨0, none⟩ (.owedAtClose 4)) = .openSlot 0 ⟨3, 0⟩ 0 7) ∧
    ((holding (part table) (held ⟨0, none⟩ .owed)).queueIs 6 [] (held ⟨0, none⟩ .owed) []
      ∧ (held ⟨0, none⟩ .owed).position < (held ⟨0, none⟩ .owed).transfer.length ∧ (held ⟨0, none⟩ .owed).run = none)
    ∧ (∀ reason r, (holding (part table) (held ⟨0, none⟩ .owed)).routePath 6 (held ⟨0, none⟩ .owed) ≠ .hold reason r)
    ∧ (holding (fullStaging (part table)) (held ⟨0, none⟩ .owed)).routePath 6 (held ⟨0, none⟩ .owed) = .hold .noStaging ⟨3, 0⟩
    ∧ (hold ⟨0, none⟩ .none).restart = .none := by
  have h : (holding (part table) (held ⟨0, none⟩ .owed)).routePath 6 (held ⟨0, none⟩ .owed) = .openSlot 0 ⟨3, 0⟩ 0 7 := by decide
  refine ⟨by decide, by decide, fun reason r => by rw [h]; simp, by decide, rfl⟩

/-- FreedSlotsRestartAndDrain: slots in use, and a window to drain with and without a slot. -/
theorem witness_freed :
    (withStaging (part table) 0 (.filling (gather 0 []) ⟨0, none⟩)).staging[(0 : Fin 16)].target = some ⟨3, 0⟩
    ∧ (withSnapshot (part shot) 0 (.loading (info 3 0) false false [])).snapshots[(0 : Fin 24)].info = some (info 3 0)
    ∧ ((part { table with state := .draining }).windows[(3 : WindowId)].state = .draining
      ∧ (part { table with state := .draining }).ownsSlot 3 = false)
    ∧ (withStaging (part { table with state := .draining }) 0 (.filling (gather 0 []) ⟨0, none⟩)).ownsSlot 3 = true := by decide

/-- SlotTimeoutsFreeTheirSlot: slots of each kind whose timer a tick close has expired, or has not. -/
theorem witness_slotTimeouts : (part table).taking ∧
    (withStaging (part table) 0 (.filling (gather 0 []) ⟨1001, some 999⟩)).staging[(0 : Fin 16)] = .filling (gather 0 []) ⟨1001, some 999⟩
    ∧ (withStaging (part table) 0 (.filling (gather 0 []) ⟨1000, none⟩)).staging[(0 : Fin 16)] = .filling (gather 0 []) ⟨1000, none⟩
    ∧ (withSnapshot (part shot) 0 (.held { info 3 0 with timer := ⟨2001, some 2000⟩ } [] (Vector.replicate 32 false))).snapshots[(0 : Fin 24)]
      = .held { info 3 0 with timer := ⟨2001, some 2000⟩ } [] (Vector.replicate 32 false)
    ∧ (withSnapshot (part shot) 0 (.held (info 3 0) [] (Vector.replicate 32 false))).snapshots[(0 : Fin 24)]
      = .held (info 3 0) [] (Vector.replicate 32 false) := by decide

/-- TicksCloseAndTimersExpire: the last period of a tick, and one before it. -/
theorem witness_ticks : State.reset.taking ∧ State.reset.pending = [] ∧ State.reset.timeBase.declaredClock ≤ 99 + 1
    ∧ State.reset.timeBase.position + 1 < State.reset.timeBase.declaredClock := by decide

/-- A reservation of record 0 of window 3. -/
def reservation (owner : ReservationOwner) (inFlight : Bool) (burst : Burst) : Reservation :=
  ⟨5, owner, [⟨3, 0⟩], inFlight, inFlight, burst⟩

/-- Eight reservations of window 4's records. -/
def fullTable : List Reservation := (List.finRange 8).map fun i => ⟨i, .load none, [⟨4, i.val⟩], true, true, .read 0 2⟩

/-- OperationsArriveAndAreTaken: blocked, without room, neither; a slot of each kind. -/
theorem witness_arrive :
    (State.reset.interlock.table.length < 8 ∧ unblocked [⟨3, 0⟩] State.reset.interlock.table [] = true)
    ∧ (8 ≤ fullTable.length ∧ unblocked [⟨3, 0⟩] fullTable [] = true)
    ∧ unblocked [⟨3, 0⟩] [reservation (.load none) true (.read 0x10000 8)] [] = false
    ∧ (withStaging (part table) 15 (.committing (gather 0 []) ⟨⟨6, 0, 0⟩, false, none⟩)).staging[(15 : Fin 16)]
      = .committing (gather 0 []) ⟨⟨6, 0, 0⟩, false, none⟩
    ∧ (withSnapshot (part shot) 23 (.loading (info 3 0) false false [])).snapshots[(23 : Fin 24)].info = some (info 3 0) := by decide

/-- ScansLeaveNothingTakeable: an operation that goes on waiting behind a reservation, a younger one that shares a record
with it and so waits too, though the record is in no reservation, and one that is taken. -/
theorem witness_scan :
    let first : WaitItem := ⟨.direct 6 [⟨6, 0, 0⟩, ⟨6, 0, 1⟩] 0x10038, [⟨3, 0⟩, ⟨3, 1⟩], .conflict⟩
    let behind : WaitItem := ⟨.direct 7 [⟨7, 0, 0⟩] 0x10040, [⟨3, 1⟩], .conflict⟩
    let s := State.reset.setInterlock ⟨[reservation (.load none) true (.read 0x10000 8)],
      [first, behind, ⟨.direct 8 [⟨8, 0, 0⟩] 0x10080, [⟨3, 2⟩], .tableFull⟩]⟩
    s.scan.interlock.waitList = [first, behind] ∧ (s.scan.interlock.table.map (·.records)) = [[⟨3, 0⟩], [⟨3, 2⟩]] := by
  decide

/-- GrantsFollowThePriorityOrder: no burst; no place; a COMMIT, a LOAD and a NOTICE granted. -/
theorem witness_grants :
    State.reset.taking ∧ (State.reset.interlock.table = [] ∧ State.reset.notice.writer = none ∧ ∀ n : Initiator, State.reset.port.direct[n] = [])
    ∧ (let s := State.reset.setInterlock ⟨[reservation (.commit 0) false (.write 0x10000 [])], []⟩
       s.reservationsApart ∧ s.notice.writer = none
        ∧ (∃ x ∈ s.interlock.table, x.owner = .commit 0 ∧ x.inFlight = false ∧ s.interlock.table = [] ++ x :: [])
        ∧ s.port.rotation = [.notice] ++ .commit :: [.load, .direct])
    ∧ (let s := State.reset.setInterlock ⟨[reservation (.load none) false (.read 0x10000 8)], []⟩
       s.reservationsApart ∧ s.notice.writer = none
        ∧ ∃ x ∈ s.interlock.table, x.owner = .load none ∧ x.inFlight = false ∧ s.interlock.table = [] ++ x :: [])
    ∧ (let s := notices.setNotice { noticeUnit with writer := some noticeWrite }
       s.reservationsApart ∧ s.notice.writer = some noticeWrite ∧ noticeWrite.outstanding = false ∧ s.port.rotation = [] ++ .notice :: [.commit, .load, .direct])
    ∧ 8 ≤ (List.replicate 8 (⟨.direct, .read 0 1, .words []⟩ : Outstanding)).length := by decide

/-- DirectGrantsGoRoundRobin: a burst that carries no acknowledgement, one that does, and a window read. -/
theorem witness_direct :
    (let s := waitingDirect notices (.passThrough (.read 0x8 1) [⟨6, 0, 0⟩])
     s.taking ∧ s.port.outstanding.length < 8 ∧ s.port.rotation = [.notice, .commit, .load] ++ .direct :: []
      ∧ s.notice.writer = none ∧ s.interlock.table = []
      ∧ s.port.direct[(6 : Initiator)] = [.passThrough (.read 0x8 1) [⟨6, 0, 0⟩]]
      ∧ (∀ k : Fin 16, (k - (s.port.lastServed + 1)).val < ((6 : Fin 16) - (s.port.lastServed + 1)).val → s.port.direct[k] = [])
      ∧ ackValue s.notice.ring (.read 0x8 1) = none)
    ∧ ackValue noticeUnit.ring (.write 0x7200 [full 5]) = some 5
    ∧ (let s := (waitingDirect State.reset (.windowRead 5)).setInterlock ⟨[reservation (.direct [⟨6, 0, 0⟩]) false (.read 0x10000 1)], []⟩
       s.reservationsApart ∧ s.port.direct[(6 : Initiator)] = [.windowRead 5]
        ∧ reservation (.direct [⟨6, 0, 0⟩]) false (.read 0x10000 1) ∈ s.interlock.table) := by decide

/-- AcknowledgementsAreObserved: up to P, and one above it. -/
theorem witness_acks : ((5 : BitVec 32) - noticeUnit.consumed).toNat ≤ (noticeUnit.produced - noticeUnit.consumed).toNat
    ∧ (noticeUnit.produced - noticeUnit.consumed).toNat < ((6 : BitVec 32) - noticeUnit.consumed).toNat := by decide

/-- ResponsesReachTheirOwner: nothing outstanding; a pass-through burst; a direct window read; an orphaned load; an
answer. -/
theorem witness_response : State.reset.taking ∧ State.reset.port.outstanding = []
    ∧ (State.reset.setPort { MemoryPort.reset with outstanding := [⟨.direct, .read 8 1, .words [⟨6, 0, 0⟩]⟩] }).port.outstanding
      = ⟨.direct, .read 8 1, .words [⟨6, 0, 0⟩]⟩ :: []
    ∧ (inMemory State.reset .direct (reservation (.direct [⟨6, 0, 0⟩]) true (.read 0x10000 1))).reservation 5
      = some (reservation (.direct [⟨6, 0, 0⟩]) true (.read 0x10000 1))
    ∧ (inMemory State.reset .load (reservation (.load none) true (.read 0x10000 8))).reservation 5
      = some (reservation (.load none) true (.read 0x10000 8))
    ∧ (holding State.reset (reads 8)).queueIs 6 [] (reads 8) [] := by decide

/-- CommitsEnd: a commit in memory, first burst and retry. -/
theorem witness_commitsEnd (retried : Bool) :
    let s := withStaging (inMemory (part table) .commit (reservation (.commit 0) true (.write 0x10000 []))) 0
      (.committing (gather 0 []) ⟨⟨6, 0, 0⟩, retried, some 1⟩)
    s.taking ∧ s.port.outstanding = [⟨.commit, .write 0x10000 [], .reservation 5⟩]
      ∧ s.reservation 5 = some (reservation (.commit 0) true (.write 0x10000 []))
      ∧ s.staging[(0 : Fin 16)] = .committing (gather 0 []) ⟨⟨6, 0, 0⟩, retried, some 1⟩ := by
  cases retried <;> decide

/-- CommitCompletionMovesTheCursor: the TABLE window, and a STREAM window in the middle and at its end, with and without
reload. -/
theorem witness_cursor : table.kind = .table ∧ (stream.kind = .stream ∧ stream.state ≠ .closed ∧ stream.cursor + 1 ≠ stream.recordCount)
    ∧ (let x := { stream with cursor := 3, reload := true }; x.state ≠ .closed ∧ x.cursor + 1 = x.recordCount ∧ x.reload = true)
    ∧ (let x := { stream with cursor := 3 }; x.state ≠ .closed ∧ x.cursor + 1 = x.recordCount ∧ x.reload = false) := by decide

/-- LoadsEnd: a load in memory with either retry spent; words that verify for it, and words that do not. -/
theorem witness_loadsEnd (retry reload : Bool) :
    let s := withSnapshot (inMemory (part { shot with stamps := true, recordWords := 2 }) .load
      (reservation (.load (some 0)) true (.read 0x10000 2))) 0 (.loading (info 3 0) retry reload [⟨⟨6, 0, 0⟩, 0⟩])
    s.taking ∧ s.port.outstanding = [⟨.load, .read 0x10000 2, .reservation 5⟩]
      ∧ s.reservation 5 = some (reservation (.load (some 0)) true (.read 0x10000 2))
      ∧ s.snapshots[(0 : Fin 24)] = .loading (info 3 0) retry reload [⟨⟨6, 0, 0⟩, 0⟩]
      ∧ stampMatches [7, stampWord [7] 0 1 6] 0 = true ∧ stampMatches [7, 0] 0 = false := by
  cases retry <;> cases reload <;> decide

/-- NoticeWritesEnd: a first attempt and a repeat. -/
theorem witness_noticeWritesEnd (repeated : Bool) :
    (noticeInMemory repeated).taking ∧ (noticeInMemory repeated).port.outstanding = [⟨.notice, noticeWrite.burst, .noticeWriter⟩]
      ∧ (noticeInMemory repeated).notice.writer = some { noticeWrite with repeated := repeated, outstanding := true } := by
  cases repeated <;> decide

/-- NoticeWriterStartsAndBuilds: section 8.6's unit may start with class 4, the one eligible class; an unconfigured unit
not; and two events in transit. -/
theorem witness_noticeStart : (arriving.rstN = true ∧ arriving.heldBack = false ∧ arriving.transit ≠ []) ∧ notices.taking ∧ notices.partState = .running ∧ notices.notice.state = .running
    ∧ notices.notice.writer = none ∧ notices.notice.ring = some ⟨0x7000, 8, 0x7200⟩
    ∧ (notices.notice.produced - notices.notice.consumed).toNat < 8 ∧ (∀ c : ClassId, notices.notice.classes[c].eligible = (c == 4))
    ∧ notices.notice.classes[(4 : ClassId)].first = some ⟨.abandoned, some 12, some 7, some 3, none, 1100⟩
    ∧ State.reset.notice.ring = none := by decide

/-- NoticeEntryHasItsLayout, StampWordHasItsLayout, VerificationCatchesSingleChanges: the hypotheses at their bounds. -/
theorem witness_layouts : (∀ r ∈ (⟨.committed, some 31, some 4095, some 15, some 0, 0⟩ : Event).record, r < 4096)
    ∧ ({ table with stamps := true } : Window).stamps = true ∧ (4095 < 4096 ∧ 4094 ≠ 4095)
    ∧ (∀ j : Fin 4, (0 : Word).extractLsb' (16 * j.val) 16 = (0x0001000000000000 : Word).extractLsb' (16 * j.val) 16 ↔ j ≠ 3)
    ∧ ((0x0000000100000000 : Word).extractLsb' 32 16 ≠ (0 : Word).extractLsb' 32 16
      ∧ (0x0000000100000000 : Word).extractLsb' 16 16 = (0 : Word).extractLsb' 16 16) := by
  refine ⟨by simp, by decide, by decide, by decide, by decide⟩

/-- ClearSettlesEveryBlock: a commit that has been issued, one that has not, entries with each kind of word. -/
theorem witness_clear :
    let s := withStaging (inMemory (part table) .commit (reservation (.commit 0) true (.write 0x10000 []))) 0
      (.committing (gather 0 []) ⟨⟨6, 0, 0⟩, false, some 1⟩)
    s.linkOpen [0x60, 0xA0] ∧ s.staging[(0 : Fin 16)] = .committing (gather 0 []) ⟨⟨6, 0, 0⟩, false, some 1⟩
      ∧ (∃ x ∈ s.interlock.table, x.owner = .commit 0 ∧ x.records = [(gather 0 []).target] ∧ x.firstIssued = true)
      ∧ ¬ (∃ x ∈ s.interlock.table, x.owner = .commit 1 ∧ x.firstIssued = true)
      ∧ (holding s { fresh 0x10000 (.write [full 1, full 2]) .inProgress with position := 1, outcomes := [.pending, .unknown] }).queues[(6 : Initiator)]
        = [{ fresh 0x10000 (.write [full 1, full 2]) .inProgress with position := 1, outcomes := [.pending, .unknown] }] := by decide

/-- ClearingEndsWhenQuiet: a quiet part, and one with a burst outstanding. -/
theorem witness_clearingEnd : State.reset.taking ∧ (State.reset.setPartState .clearing).settled = true
    ∧ ((inMemory State.reset .load (reservation (.load none) true (.read 0 2))).setPartState .clearing).portQuiet = false := by decide

/-- The eight statements about every step: section 8.6's unit with a command waiting has the properties, and steps. -/
theorem witness_steps : (∃ t, step (notices.setPending [.noticeWriteStart]) = .next t) ∧ notices.queuesSound ∧ notices.outstandingBounded
    ∧ notices.reservationsApart ∧ notices.classesLawful ∧ notices.notice.ringLawful ∧ notices.stagingUnique ∧ notices.snapshotLimits
    ∧ notices.cursorsLawful ∧ notices.windowsApart ∧ notices.slotsOwned
    ∧ (State.reset.setPartState .clearing).clearingQuiet := by
  refine ⟨⟨_, rfl⟩, ?_, ?_, ?_, ?_, ?_, ?_, ?_, ?_, ?_, ?_, ?_⟩ <;> decide +kernel

end Sys2Proof.Tests
end

/-! REOPEN_WINDOW (R30). A window command that the link carries out is its own rule on the window it names; the rule is
then looked at in its two cases, CLOSED and not. -/

namespace Sys2Proof.Machine

/-! ### Window commands that are carried out -/

/-- A window's number, sent as its byte, names that window (R181). -/
@[simp] theorem windowOperand_ofNat (w : WindowId) : windowOperand (BitVec.ofNat 8 w.val) = some w := by
  have hw : (BitVec.ofNat 8 w.val).toNat = w.val := by
    rw [BitVec.toNat_ofNat]
    exact Nat.mod_eq_of_lt (by omega)
  simp [windowOperand, hw]

/-- The model's own response is the answer of the statements. -/
theorem State.respond_eq_answered (s : State) (status : Status) (results : List Byte) :
    s.respond status results = s.answered status results := rfl

/-- A window command that the link carries out is its own rule, for the window it names (R181). -/
theorem State.windowCommand_open {s : State} {frame : List Byte} (hopen : s.linkOpen frame) (w : WindowId) (results : Nat)
    (rule : State → WindowId → State) :
    s.windowCommand frame (BitVec.ofNat 8 w.val) results rule = rule s w := by
  obtain ⟨⟨⟨hrst, htransit, hheld⟩, hlow⟩, hrunning, hsum⟩ := hopen
  rw [State.windowCommand, State.linkCommand_open s results _ hrst htransit hheld hlow hsum hrunning, windowOperand_ofNat]

/-! ### REOPEN_WINDOW -/

/-- REOPEN_WINDOW carried out is its own rule (R30). -/
theorem exec_reopenWindow_open {s : State} {w : WindowId} {check : Byte}
    (hopen : s.linkOpen [0x24, BitVec.ofNat 8 w.val, check]) :
    exec (.reopenWindow (BitVec.ofNat 8 w.val) check) s = .next (s.reopenRule w) :=
  congrArg Host.Outcome.next (State.windowCommand_open hopen w 0 State.reopenRule)

/-- A CLOSED window becomes ACTIVE with cursor 0, every other field of it as it was (R30). -/
theorem State.reopenRule_closed {s : State} {w : WindowId} (hclosed : s.windows[w].state = .closed) :
    s.reopenRule w =
      State.answered { s with windows := s.windows.set w { s.windows[w] with state := .active, cursor := 0 } }
        .accepted [] := by
  rw [State.reopenRule, if_pos hclosed, State.respond_eq_answered]
  rfl

/-- A window that is not CLOSED stays as it is, and so does the rest of the part (R30). -/
theorem State.reopenRule_of_not_closed {s : State} {w : WindowId} (hnot : s.windows[w].state ≠ .closed) :
    s.reopenRule w = s.answered .badState [] := by
  rw [State.reopenRule, if_neg hnot, State.respond_eq_answered]

/-- A TABLE window is never CLOSED (R36). -/
theorem Window.cursorLawful.not_closed_of_table {x : Window} (hlawful : x.cursorLawful) (htable : x.kind = .table) :
    x.state ≠ .closed := by
  obtain ⟨table, _, _⟩ := hlawful
  exact (table htable).2

/-- Settles O18: the two cases of the command's own rule, CLOSED and not; a TABLE window falls under the second. -/
theorem reopenWindowRestartsTheCursor : Obligations.ReopenWindowRestartsTheCursor := by
  intro s w check b hopen
  have hexec : exec (.reopenWindow b check) s = .next (s.reopenRule w) := exec_reopenWindow_open hopen
  have badState (h : s.windows[w].state ≠ .closed) :
      exec (.reopenWindow b check) s = .next (s.answered .badState []) := by
    rw [hexec, State.reopenRule_of_not_closed h]
  refine ⟨fun hclosed => ?_, badState, fun hlawful htable => ?_⟩
  · rw [hexec, State.reopenRule_closed hclosed]
  · exact badState (hlawful.not_closed_of_table htable)

end Sys2Proof.Machine

/-! The check code (R114). The model adds in 16-bit arithmetic, the statement in natural numbers with one reduction at the
end; each sum of the model is tied to its natural number, innermost first. -/

namespace Sys2Proof.Machine

/-- The four 16-bit quarters of a data word, added as natural numbers (R114); `pieceSum` is this sum modulo 65536. -/
def quarterTotal (w : Word) : Nat :=
  w.toNat % 65536 + w.toNat / 65536 % 65536 + w.toNat / 65536 / 65536 % 65536 + w.toNat / 65536 / 65536 / 65536 % 65536

/-- The sum S of R114, over natural numbers and reduced once. -/
def recordSum (data : List Word) (record : Nat) (sequence : BitVec 32) : Nat :=
  ((data.map quarterTotal).sum + record % 65536 + sequence.toNat % 65536) % 65536

/-- A word's piece sum is the total of its quarters modulo 65536 (R114). -/
theorem pieceSum_toNat (w : Word) : (pieceSum w).toNat = quarterTotal w % 65536 := by
  simp only [pieceSum, quarterTotal, BitVec.toNat_add, BitVec.extractLsb'_toNat, Nat.shiftRight_eq_div_pow,
    Nat.div_div_eq_div_mul]
  omega

/-- The piece sums of a record's data words add up to the total of all quarters modulo 65536 (R114). -/
theorem pieceSums_toNat (data : List Word) :
    ((data.map pieceSum).foldr (· + ·) 0).toNat = (data.map quarterTotal).sum % 65536 := by
  induction data with
  | nil => rfl
  | cons w rest ih =>
    rw [List.map_cons, List.foldr_cons, BitVec.toNat_add, ih, pieceSum_toNat, List.map_cons, List.sum_cons]
    exact (Nat.add_mod _ _ 65536).symm

/-- S is a 16-bit value, so 65535 less S does not cut off at 0. -/
theorem recordSum_lt (data : List Word) (record : Nat) (sequence : BitVec 32) : recordSum data record sequence < 65536 :=
  Nat.mod_lt _ (by decide)

/-- The check code, read as a number, is 65535 less the sum S (R114). -/
theorem checkCode_toNat (data : List Word) (record : Nat) (sequence : BitVec 32) :
    (checkCode data record sequence).toNat = 65535 - recordSum data record sequence := by
  have hsum : ((data.map pieceSum).foldr (· + ·) 0 + BitVec.ofNat 16 record + sequence.setWidth 16).toNat
      = recordSum data record sequence := by
    simp only [BitVec.toNat_add, pieceSums_toNat, BitVec.toNat_ofNat, BitVec.toNat_setWidth, recordSum]
    omega
  have hlt := recordSum_lt data record sequence
  rw [checkCode, BitVec.toNat_sub, hsum, show (65535 : BitVec 16).toNat = 65535 from rfl]
  omega

/-- For any data words and any record index, some sequence gives the code `v`: the one whose low half is what the other
terms of S leave to 65535 less `v` (R114). -/
theorem exists_sequence_checkCode_eq (data : List Word) (record : Nat) (v : BitVec 16) :
    ∃ sequence, checkCode data record sequence = v := by
  simp only [checkCode]
  generalize (data.map pieceSum).foldr (· + ·) 0 + BitVec.ofNat 16 record = rest
  have hlow : ((65535 - v - rest).setWidth 32).setWidth 16 = 65535 - v - rest := by
    rw [BitVec.setWidth_setWidth_of_le _ (by decide), BitVec.setWidth_eq]
  refine ⟨(65535 - v - rest).setWidth 32, ?_⟩
  calc 65535 - (rest + ((65535 - v - rest).setWidth 32).setWidth 16)
      = 65535 - (65535 - v) := by rw [hlow, add_sub_cancel]
    _ = v := sub_sub_cancel _ _

/-- Settles O48: `checkCode_toNat` gives the code and with it R114's consistency; every code is that of a record of one
data word, by its sequence. -/
theorem checkCodeIsTheComplementOfTheSum : Obligations.CheckCodeIsTheComplementOfTheSum := by
  refine ⟨fun data record sequence => ?_, fun v => ?_⟩
  · have hcode := checkCode_toNat data record sequence
    have hlt := recordSum_lt data record sequence
    have hconsistent : (recordSum data record sequence + (checkCode data record sequence).toNat) % 65536 = 65535 := by
      omega
    exact ⟨hcode, hconsistent⟩
  · obtain ⟨sequence, hv⟩ := exists_sequence_checkCode_eq [0] 0 v
    exact ⟨[0], 0, sequence, by decide, hv⟩

end Sys2Proof.Machine

/-! RESTART_NOTICES (R157) and the line FLT_N (R158). A sound frame is answered BUSY in CLEARING and is the command's own rule
in RUNNING; the rule is then looked at in its two cases, HALTED and not. -/

namespace Sys2Proof.Machine

/-! ### FLT_N -/

/-- FLT_N is asserted exactly while the notice unit is HALTED (R158). -/
theorem NoticeUnit.fltAsserted_iff (n : NoticeUnit) : n.fltAsserted = true ↔ n.state = .halted := by
  rw [NoticeUnit.fltAsserted, beq_iff_eq]

/-- FLT_N is released exactly while the notice unit is not HALTED (R158). -/
theorem NoticeUnit.fltAsserted_eq_false_iff (n : NoticeUnit) : n.fltAsserted = false ↔ n.state ≠ .halted := by
  rw [ne_eq, ← n.fltAsserted_iff, Bool.not_eq_true]

/-! ### RESTART_NOTICES -/

/-- A HALTED unit becomes RUNNING, everything else of it as it was (R157). -/
theorem State.restartNoticesRule_halted {s : State} (hhalted : s.notice.state = .halted) :
    s.restartNoticesRule = State.answered { s with notice := { s.notice with state := .running } } .accepted [] := by
  rw [State.restartNoticesRule, if_pos hhalted, State.respond_eq_answered]
  rfl

/-- A unit that is not HALTED stays as it is, and so does the rest of the part (R157). -/
theorem State.restartNoticesRule_of_not_halted {s : State} (hnot : s.notice.state ≠ .halted) :
    s.restartNoticesRule = s.answered .badState [] := by
  rw [State.restartNoticesRule, if_neg hnot, State.respond_eq_answered]

/-- RESTART_NOTICES with a sound frame in RUNNING is its own rule (R157, R181). -/
theorem exec_restartNotices_open {s : State} {check : Byte} (hopen : s.linkOpen [0x43, check]) :
    exec (.restartNotices check) s = .next s.restartNoticesRule := by
  obtain ⟨⟨⟨hrst, htransit, hheld⟩, hlow⟩, hrunning, hsum⟩ := hopen
  exact congrArg Host.Outcome.next (State.linkCommand_open s 0 _ hrst htransit hheld hlow hsum hrunning)

/-- RESTART_NOTICES with a sound frame in CLEARING is answered BUSY (R181). -/
theorem exec_restartNotices_clearing {s : State} {check : Byte} (htakes : s.linkTakes) (hsum : byteSum [0x43, check] = 0)
    (hclearing : s.partState = .clearing) : exec (.restartNotices check) s = .next (s.answered .busy []) := by
  obtain ⟨⟨hrst, htransit, hheld⟩, hlow⟩ := htakes
  exact congrArg Host.Outcome.next (State.linkCommand_busy s 0 _ hrst htransit hheld hlow hsum hclearing)

/-- Settles O14: the two cases of the command's own rule, HALTED and not, and the answer in CLEARING; FLT_N follows the
unit's state. -/
theorem restartNoticesLeavesHalted : Obligations.RestartNoticesLeavesHalted := by
  intro s check htakes hsum
  refine ⟨exec_restartNotices_clearing htakes hsum, fun hrunning hhalted => ?_, fun hrunning hnot => ?_⟩
  · have hexec := exec_restartNotices_open ⟨htakes, hrunning, hsum⟩
    rw [State.restartNoticesRule_halted hhalted] at hexec
    have hreleased : ({ s.notice with state := .running } : NoticeUnit).fltAsserted = false :=
      (NoticeUnit.fltAsserted_eq_false_iff _).2 (by simp)
    exact ⟨(NoticeUnit.fltAsserted_iff _).2 hhalted, _, hexec, rfl, hreleased⟩
  · rw [exec_restartNotices_open ⟨htakes, hrunning, hsum⟩, State.restartNoticesRule_of_not_halted hnot]

end Sys2Proof.Machine

/-! The stamp word (R193): each field at its bits, what a commit of a stamped window writes, and what verification reads of a
returned record. -/

namespace Sys2Proof.Machine

/-! ### The fields of the layout -/

/-- The sequence stands at bits 63..32, where verification reads it (R193). -/
@[simp] theorem stampSequence_stampLayout (sequence : BitVec 32) (check : BitVec 16) (writer : Initiator) :
    stampSequence (stampLayout sequence check writer) = sequence := by
  rw [stampSequence, stampLayout, BitVec.extractLsb'_append_eq_of_le (by decide),
    BitVec.extractLsb'_append_eq_of_le (by decide)]
  exact BitVec.extractLsb'_append_eq_left

/-- The check code stands at bits 31..16, where verification reads it (R193). -/
@[simp] theorem stampCheck_stampLayout (sequence : BitVec 32) (check : BitVec 16) (writer : Initiator) :
    stampCheck (stampLayout sequence check writer) = check := by
  rw [stampCheck, stampLayout, BitVec.extractLsb'_append_eq_of_le (by decide),
    BitVec.extractLsb'_append_eq_of_le (by decide)]
  exact BitVec.extractLsb'_append_eq_right

/-- The writer's number stands at bits 15..12 (R193). -/
theorem stampLayout_writer (sequence : BitVec 32) (check : BitVec 16) (writer : Initiator) :
    ((stampLayout sequence check writer).extractLsb' 12 4).toNat = writer.val := by
  have hfield : (stampLayout sequence check writer).extractLsb' 12 4 = BitVec.ofNat 4 writer.val := by
    rw [stampLayout, BitVec.extractLsb'_append_eq_of_le (by decide)]
    exact BitVec.extractLsb'_append_eq_right
  rw [hfield, BitVec.toNat_ofNat]
  exact Nat.mod_eq_of_lt writer.isLt

/-- Bits 11..0 are zero (R193). -/
theorem stampLayout_zero (sequence : BitVec 32) (check : BitVec 16) (writer : Initiator) :
    (stampLayout sequence check writer).extractLsb' 0 12 = 0 :=
  BitVec.extractLsb'_append_eq_right

/-! ### Commits and verification -/

/-- The data words of a stamped window are all words of its records but the last (R115). -/
theorem Window.dataWords_of_stamps {x : Window} (hstamps : x.stamps = true) : x.dataWords = x.recordWords - 1 :=
  if_pos hstamps

/-- A commit of a stamped window writes the slot's data words, then the stamp word over them (R76, R115). -/
theorem commitWords_of_stamps {x : Window} (hstamps : x.stamps = true) (g : Gather) (sequence : BitVec 32) :
    commitWords x g sequence = g.dataWords (x.recordWords - 1)
      ++ [stampWord (g.dataWords (x.recordWords - 1)) g.target.record sequence g.owner] := by
  rw [commitWords, if_pos hstamps, Window.dataWords_of_stamps hstamps]

/-- Verification takes the last word of a returned record as its stamp word, computes the check code over the others with
that word's sequence, and compares it with that word's check (R117). -/
theorem stampMatches_append (data : List Word) (stamp : Word) (record : Nat) :
    stampMatches (data ++ [stamp]) record = (checkCode data record (stampSequence stamp) == stampCheck stamp) := by
  simp only [stampMatches, List.getLastD_concat, List.dropLast_concat]

/-- Settles O49: the last word of the commit is a `stampLayout`, whose fields are read one by one; `stampSequence` and
`stampCheck` are the only parts of the stamp word that `stampMatches_append` names. -/
theorem stampWordHasItsLayout : Obligations.StampWordHasItsLayout := by
  refine ⟨fun x g q hstamps => ?_, stampMatches_append, fun _ => rfl⟩
  exact ⟨_, _, commitWords_of_stamps hstamps g q, rfl, stampSequence_stampLayout q _ g.owner,
    stampCheck_stampLayout q _ g.owner, stampLayout_writer q _ g.owner, stampLayout_zero q _ g.owner⟩

end Sys2Proof.Machine

/-! What a step keeps. `KeptByActs` names the acts a step can make; a property that every act keeps is kept by every
command, and with the pin's values by every step. The invariants of Safety.lean and the frame of a command go through it. -/

namespace Sys2Proof.Machine

/-! ### Acts -/

/-- The property holds across what the link and the hand-overs do in every command, and across each command's own act. A link
command's rule acts while the part is RUNNING (R181). -/
structure KeptByActs (P : State → Prop) : Prop where
  transit : ∀ (t : State) (l : List HandOver), P t → P (t.setTransit l)
  heldBack : ∀ (t : State) (b : Bool), P t → P (t.setHeldBack b)
  link : ∀ (t : State) (x : Link), P t → P (t.setLink x)
  timeBase : ∀ (t : State) (x : TimeBase), P t → P (t.setTimeBase x)
  takeHandOver : ∀ (t : State) (h : HandOver), P t → P (t.takeHandOver h)
  takeRequest : ∀ (t : State) (n : Initiator) (a : Addr) (x : Transfer), t.ready n = true → P t → P (t.takeRequest n a x)
  startOldest : ∀ (t : State) (n : Initiator), P t → P (t.setQueues (updatePool t.queues n startOldest))
  routeNext : ∀ (t : State) (n : Initiator), P t → P (t.routeNext n)
  restartHeld : ∀ (t : State) (n : Initiator), P t → P (t.restartHeld n)
  holdTimeout : ∀ (t : State) (n : Initiator), P t → P (t.holdTimeout n)
  returnHead : ∀ (t : State) (n : Initiator), P t → P (t.returnHead n)
  grant : ∀ t : State, P t → P t.grant
  respondMemory : ∀ (t : State) (x : MemStatus) (d : Vector Word 32), P t → P (t.respondMemory x d)
  writerTest : ∀ t : State, P t → P t.writerTest
  closeTick : ∀ t : State, P t → P t.closeTick
  gatherExpiry : ∀ (t : State) (slot : Fin 16), P t → P (t.gatherExpiry slot)
  snapshotExpiry : ∀ (t : State) (slot : Fin 24), P t → P (t.snapshotExpiry slot)
  clearingEnd : ∀ t : State, P t → P (t.setPartState .running)
  getStatusRule : ∀ t : State, P t → P t.getStatusRule
  putWindowRule : ∀ (t : State) (w : WindowId) (base : Addr) (rw : Byte) (rc : BitVec 16) (flags : Byte)
    (ws rs : BitVec 16) (cls ev : Byte), t.partState = .running → P t →
      P (t.putWindowRule w fun old => putOperand old base rw rc flags ws rs cls ev)
  enableRule : ∀ (t : State) (w : WindowId), t.partState = .running → P t → P (t.enableRule w)
  disableRule : ∀ (t : State) (w : WindowId), t.partState = .running → P t → P (t.disableRule w)
  reopenRule : ∀ (t : State) (w : WindowId), t.partState = .running → P t → P (t.reopenRule w)
  flushRule : ∀ (t : State) (w : WindowId), t.partState = .running → P t → P (t.flushRule w)
  setRingRule : ∀ (t : State) (r : Ring) (fault : Byte), t.partState = .running → P t → P (t.setRingRule r fault)
  setClassesRule : ∀ (t : State) (mode : Byte) (masked : BitVec 16), t.partState = .running → P t →
    P (t.setClassesRule mode masked)
  restartNoticesRule : ∀ t : State, t.partState = .running → P t → P t.restartNoticesRule
  setPortRule : ∀ (t : State) (mode : Byte), t.partState = .running → P t → P (t.setPortRule mode)
  clearBlocks : ∀ t : State, t.partState = .running → P t → P t.clearBlocks

namespace KeptByActs

variable {P : State → Prop} (K : KeptByActs P)

include K

theorem respond {t : State} (x : Status) (r : List Byte) (h : P t) : P (t.respond x r) := K.link _ _ h

theorem cutFrame {t : State} (h : P t) : P t.cutFrame := K.link _ _ h

/-- A command of the part keeps what its act keeps. -/
theorem event {s : State} {act : State → State} (hact : ∀ t, P t → P (act t)) (h : P s) : P (s.event act) :=
  State.event_keeps s P K.transit K.heldBack K.takeHandOver act hact h

/-- A frame keeps what its command's act keeps (R176, R180). -/
theorem frame {s : State} {taken : State → State} (htaken : ∀ t, P t → P (taken t)) (h : P s) : P (s.frame taken) := by
  unfold State.frame
  split
  · refine K.event (fun t ht => ?_) h
    split
    · exact K.cutFrame ht
    · exact htaken t ht
  · exact K.link _ _ h

/-- A link command keeps what its own rule keeps while the part is RUNNING (R177, R181). -/
theorem linkCommand {s : State} {frame : List Byte} {results : Nat} {own : State → State}
    (hown : ∀ t, t.partState = .running → P t → P (own t)) (h : P s) : P (s.linkCommand frame results own) := by
  refine K.frame (fun t ht => ?_) h
  split
  · exact K.respond _ _ ht
  · rename_i hnone
    have hrunning : t.partState = .running := by
      cases hp : t.partState with
      | running => rfl
      | clearing =>
        rw [State.linkRefusal] at hnone
        split at hnone <;> simp_all
    exact hown t hrunning ht

/-- A command that names a window keeps what the window's own rule keeps (R181). -/
theorem windowCommand {s : State} {frame : List Byte} {window : Byte} {results : Nat} {rule : State → WindowId → State}
    (hrule : ∀ t w, t.partState = .running → P t → P (rule t w)) (h : P s) :
    P (s.windowCommand frame window results rule) := by
  refine K.linkCommand (fun t hrunning ht => ?_) h
  split
  · exact K.respond _ _ ht
  · exact hrule t _ hrunning ht

theorem setTimersRule {t : State} (g h sn : Nat) (ht : P t) : P (t.setTimersRule g h sn) := by
  unfold State.setTimersRule
  split
  · exact K.respond _ _ ht
  · exact K.respond _ _ (K.timeBase _ _ ht)

theorem setClockRule {t : State} (mhz : Nat) (ht : P t) : P (t.setClockRule mhz) := by
  unfold State.setClockRule
  split
  · exact K.respond _ _ ht
  · refine K.respond _ _ ?_
    split
    · exact K.closeTick _ (K.timeBase _ _ ht)
    · exact K.timeBase _ _ ht

theorem getClassRule {t : State} (c : Byte) (ht : P t) : P (t.getClassRule c) := by
  unfold State.getClassRule
  split <;> exact K.respond _ _ ht

theorem clkPeriod {s : State} (h : P s) : P s.clkPeriod := by
  refine K.event (fun t ht => ?_) h
  split
  · exact K.closeTick _ ht
  · exact K.timeBase _ _ ht

/-- Every command but the two pin events keeps what every act keeps. -/
theorem exec {c : Instr} {s t : State} (h : Machine.exec c s = .next t) (hreset : c ≠ .pinReset)
    (hrelease : c ≠ .pinResetRelease) (hs : P s) : P t := by
  cases c with
  | pinReset => exact absurd rfl hreset
  | pinResetRelease => exact absurd rfl hrelease
  | requestTaken n a x =>
    simp only [Machine.exec, execRequestTaken] at h
    split at h
    · injection h with h
      subst h
      refine K.event (fun u hu => ?_) hs
      split
      · exact K.takeRequest _ _ _ _ (by assumption) hu
      · exact hu
    · exact nomatch h
  | unknownCommand code check =>
    simp only [Machine.exec, execUnknownCommand] at h
    split at h
    · exact nomatch h
    · injection h with h
      subst h
      exact K.frame (fun _ hu => K.respond _ _ hu) hs
  | entryStart n => injection h with h; subst h; exact K.event (fun u => K.startOldest u n) hs
  | routeWord n => injection h with h; subst h; exact K.event (fun u => K.routeNext u n) hs
  | restart n => injection h with h; subst h; exact K.event (fun u => K.restartHeld u n) hs
  | holdExpiry n => injection h with h; subst h; exact K.event (fun u => K.holdTimeout u n) hs
  | responseReturn n => injection h with h; subst h; exact K.event (fun u => K.returnHead u n) hs
  | portGrant => injection h with h; subst h; exact K.event K.grant hs
  | memoryResponse x d => injection h with h; subst h; exact K.event (fun u => K.respondMemory u x d) hs
  | noticeWriteStart =>
    injection h with h
    subst h
    exact State.testEvent_keeps s P K.transit K.heldBack K.takeHandOver _ K.writerTest hs
  | tickClose => injection h with h; subst h; exact K.event K.closeTick hs
  | gatherTimeout i => injection h with h; subst h; exact K.event (fun u => K.gatherExpiry u i) hs
  | snapshotTimeout i => injection h with h; subst h; exact K.event (fun u => K.snapshotExpiry u i) hs
  | clearingEnd =>
    injection h with h
    subst h
    refine State.eventLast_keeps s P K.transit K.heldBack K.takeHandOver _ (fun u hu => ?_) hs
    split
    · exact K.clearingEnd u hu
    · exact hu
  | frameCut =>
    injection h with h
    subst h
    split
    · exact K.event (fun _ => K.cutFrame) hs
    · exact K.cutFrame hs
  | getStatus check =>
    injection h with h
    subst h
    refine K.frame (fun u hu => ?_) hs
    split
    · exact K.getStatusRule u hu
    · exact K.respond _ _ hu
  | getWindow w check =>
    injection h with h; subst h; exact K.windowCommand (fun _ _ _ hu => K.respond _ _ hu) hs
  | putWindow w base rw rc flags ws rs cls ev check =>
    injection h with h; subst h; exact K.windowCommand (fun u v => K.putWindowRule u v base rw rc flags ws rs cls ev) hs
  | enableWindow w check => injection h with h; subst h; exact K.windowCommand K.enableRule hs
  | disableWindow w check => injection h with h; subst h; exact K.windowCommand K.disableRule hs
  | reopenWindow w check => injection h with h; subst h; exact K.windowCommand K.reopenRule hs
  | flushWindow w check => injection h with h; subst h; exact K.windowCommand K.flushRule hs
  | setTimers g hd sn check =>
    injection h with h; subst h; exact K.linkCommand (fun _ _ hu => K.setTimersRule _ _ _ hu) hs
  | setClock mhz check => injection h with h; subst h; exact K.linkCommand (fun _ _ hu => K.setClockRule _ hu) hs
  | setRing base cap ack fault check =>
    injection h with h; subst h; exact K.linkCommand (fun u => K.setRingRule u _ fault) hs
  | setClasses mode masked check =>
    injection h with h; subst h; exact K.linkCommand (fun u => K.setClassesRule u mode masked) hs
  | getClass c check => injection h with h; subst h; exact K.linkCommand (fun _ _ hu => K.getClassRule _ hu) hs
  | restartNotices check => injection h with h; subst h; exact K.linkCommand K.restartNoticesRule hs
  | setPort mode check => injection h with h; subst h; exact K.linkCommand (fun u => K.setPortRule u mode) hs
  | clear check =>
    injection h with h; subst h; exact K.linkCommand (fun u hr hu => K.respond _ _ (K.clearBlocks u hr hu)) hs

/-- A step keeps what every act keeps, when it holds of the pin's values and does not rest on the waiting commands. -/
theorem step {s t : State} (pending : ∀ (u : State) (l : List Instr), P u → P (u.setPending l))
    (pin : ∀ (u : State) (level : Bool), P (u.pinValues level)) (h : Machine.step s = .next t) (hs : P s) : P t := by
  unfold Machine.step at h
  split at h
  · injection h with h
    subst h
    exact K.clkPeriod hs
  · rename_i c rest _
    by_cases hreset : c = .pinReset
    · subst hreset
      injection h with h
      subst h
      exact pin _ _
    by_cases hrelease : c = .pinResetRelease
    · subst hrelease
      injection h with h
      subst h
      split
      · exact State.takeOldest_keeps _ P K.transit K.heldBack K.takeHandOver (pending _ _ hs)
      · exact pin _ _
    exact K.exec h hreset hrelease (pending _ _ hs)

end KeptByActs

end Sys2Proof.Machine

/-! The elementary changes the part is made of, each with what it leaves as it was. `Kept P` says that the property `P` holds
across each of them; every act of a command is a sequence of them, so `Kept.acts` carries `P` through every step. A property
that does not read the changed block holds across the change as it stands, which is the default of each field. -/

namespace Sys2Proof.Machine

/-! ### What an elementary change keeps -/

/-- The outcomes of an entry that are not OK carry zero (R16). -/
def Entry.dataLawful (e : Entry) : Prop := ∀ o ∈ e.outcomes, o.dataLawful = true

/-- An entry changed: its tag stays, and its words answered other than OK still carry zero. -/
structure Entry.KeptTo (e e' : Entry) : Prop where
  tag : e'.tag = e.tag
  data : e.dataLawful → e'.dataLawful

/-- A queue whose entries alone have changed. -/
abbrev QueueKept (q q' : List Entry) : Prop := List.Forall₂ Entry.KeptTo q q'

/-- A window entry changed to `x`: its cursor stays lawful, a window that is not OFF afterwards has the range it had and either
was not OFF or may be enabled, and a window that becomes OFF owns no slot. -/
structure State.WindowKept (t : State) (w : WindowId) (x : Window) : Prop where
  cursor : t.windows[w].cursorLawful → x.cursorLawful
  range : x.state ≠ .off → (t.windows[w].state ≠ .off ∨ t.enableAllowed w = true)
    ∧ x.base = t.windows[w].base ∧ x.recordWords = t.windows[w].recordWords ∧ x.recordCount = t.windows[w].recordCount
  owns : t.windows[w].state ≠ .off → x.state = .off → t.ownsSlot w = false

/-- The reader and the record of a snapshot slot in use. -/
def SnapshotSlot.use (x : SnapshotSlot) : Option (Initiator × RecordId) := x.info.map fun i => (i.reader, i.target)

/-- What the notice unit does, but for the setting of a ring. -/
inductive NoticeUnit.Move (n : NoticeUnit) : NoticeUnit → Prop
  | count (c : ClassId) (e : Event) : Move n { n with classes := updatePool n.classes c fun x => x.take e }
  | start : Move n n.start
  | observe (value : Word) : Move n (n.observe value)
  | issue (w : NoticeWrite) (h : n.writer = some w) : Move n { n with writer := some { w with outstanding := true } }
  | response (status : MemStatus) : Move n (n.writeResponse status)
  | masks (mode : PriorityMode) (masked : BitVec 16) : Move n (n.withMasks mode masked)
  | restart (h : n.state = .halted) : Move n { n with state := .running }
  | status : Move n { n with ackRange := false }
  | empty : Move n { n with classes := mapPool n.classes NoticeClass.emptied }

/-- The property holds across every elementary change. -/
structure Kept (P : State → Prop) : Prop where
  transit : ∀ (t : State) (l : List HandOver), P t → P (t.setTransit l) := by intros; assumption
  heldBack : ∀ (t : State) (b : Bool), P t → P (t.setHeldBack b) := by intros; assumption
  link : ∀ (t : State) (x : Link), P t → P (t.setLink x) := by intros; assumption
  timeBase : ∀ (t : State) (x : TimeBase), P t → P (t.setTimeBase x) := by intros; assumption
  lastResponse : ∀ (t : State) (x : Option Response), P t → P (t.setLastResponse x) := by intros; assumption
  snapshotUses : ∀ (t : State) (x : Nat), P t → P (t.setSnapshotUses x) := by intros; assumption
  partState : ∀ (t : State) (x : PartState), P t → P (t.setPartState x) := by intros; assumption
  queues : ∀ (t : State) (q : Vector (List Entry) 16), (∀ n : Initiator, QueueKept t.queues[n] q[n]) → P t →
    P (t.setQueues q) := by intros; assumption
  join : ∀ (t : State) (n : Initiator) (a : Addr) (x : Transfer), t.queues[n].length < Config.queueDepth → P t →
    P (t.setQueues (updatePool t.queues n fun q => q ++ [newEntry (freeTag q) a x])) := by intros; assumption
  leave : ∀ (t : State) (n : Initiator) (e : Entry) (rest : List Entry), t.queues[n] = e :: rest → P t →
    P (t.setQueues (t.queues.set n rest)) := by intros; assumption
  reserve : ∀ (t : State) (o : ReservationOwner) (rs : List RecordId) (b : Burst), tableHasRoom t.interlock.table = true →
    recordsFree rs (t.interlock.table.map (·.records)) = true → P t → P (t.reserve o rs b) := by intros; assumption
  interlock : ∀ (t : State) (i : Interlock),
    (i.table.map fun r => (r.id, r.records)).Sublist (t.interlock.table.map fun r => (r.id, r.records)) → P t →
    P (t.setInterlock i) := by intros; assumption
  port : ∀ (t : State) (p : MemoryPort), p.outstanding.length ≤ t.port.outstanding.length
      ∨ p.outstanding.length ≤ Config.outstandingPlaces → P t → P (t.setPort p) := by intros; assumption
  notice : ∀ (t : State) (n : NoticeUnit), t.notice.Move n → P t → P (t.setNotice n) := by intros; assumption
  ring : ∀ (t : State) (r : Ring) (c : ClassId), t.ringAllowed r = true → t.notice.inFlight = [] → t.notice.writer = none →
    P t → P (t.setNotice (t.notice.withRing r c)) := by intros; assumption
  window : ∀ (t : State) (w : WindowId) (x : Window), t.WindowKept w x → P t → P (t.setWindows (t.windows.set w x)) := by
    intros; assumption
  windowsOff : ∀ (t : State) (v : Vector Window 32),
    (∀ w : WindowId, v[w].state = .off ∧ (t.windows[w].cursorLawful → v[w].cursorLawful)) →
    (∀ i : Fin 16, t.staging[i].gathering = none) → (∀ i : Fin 24, t.snapshots[i] = .free) → P t → P (t.setWindows v) := by
    intros; assumption
  staging : ∀ (t : State) (v : Vector StagingSlot 16),
    (∀ i : Fin 16, (v[i].target = none ∨ v[i].target = t.staging[i].target)
      ∧ (v[i].gathering = none ∨ v[i].gathering = t.staging[i].gathering)) → P t → P (t.setStaging v) := by
    intros; assumption
  openStaging : ∀ (t : State) (slot : Fin 16) (x : StagingSlot) (r : RecordId), x.target = some r → t.noStaging r →
    t.windows[r.window].state ≠ .off → P t → P (t.setStaging (t.staging.set slot x)) := by intros; assumption
  snapshots : ∀ (t : State) (v : Vector SnapshotSlot 24),
    (∀ i : Fin 24, v[i].use = none ∨ v[i].use = t.snapshots[i].use) → P t → P (t.setSnapshots v) := by intros; assumption
  openSnapshot : ∀ (u t : State) (slot : Fin 24) (x : SnapshotSlot) (n : Initiator) (r : RecordId), x.use = some (n, r) →
    P u → (u.snapshotLimits → t.slotCount n < Config.slotsPerReader ∧ t.noSnapshot n fun y => y.window == r.window) →
    t.windows[r.window].state ≠ .off → P t → P (t.setSnapshots (t.snapshots.set slot x)) := by intros; assumption

/-! ### Entries and queues -/

theorem Entry.KeptTo.of_same {e e' : Entry} (htag : e'.tag = e.tag) (hout : e'.outcomes = e.outcomes) : e.KeptTo e' :=
  ⟨htag, fun h o ho => h o (hout ▸ ho)⟩

theorem Entry.KeptTo.refl (e : Entry) : e.KeptTo e := .of_same rfl rfl

/-- Settling changes neither tag nor outcomes (R13). -/
theorem Entry.KeptTo.settle {e e' : Entry} (h : e.KeptTo e') : e.KeptTo e'.settle := by
  have hf := e'.settle_frame
  obtain ⟨htag, _, _, _, hout, _⟩ := hf
  exact ⟨htag.trans h.tag, fun he o ho => h.data he o (hout ▸ ho)⟩

/-- One outcome set to a lawful one. -/
theorem Entry.KeptTo.of_set {e e' : Entry} {i : Nat} {o : WordOutcome} (htag : e'.tag = e.tag)
    (hout : e'.outcomes = e.outcomes.set i o) (ho : o.dataLawful = true) : e.KeptTo e' := by
  refine ⟨htag, fun he x hx => ?_⟩
  rw [hout] at hx
  rcases List.mem_or_eq_of_mem_set hx with h | rfl
  · exact he x h
  · exact ho

/-- The data word of a new outcome is zero unless the code is OK (R16). -/
@[simp] theorem dataLawful_answeredWith (c : Code) (d : Word) : (answeredWith c d).dataLawful = true := by
  by_cases h : c = .ok <;> simp [answeredWith, WordOutcome.dataLawful, h]

theorem Entry.keptTo_answer (e : Entry) (i : Nat) (c : Code) (d : Word) : e.KeptTo (e.answer i c d) :=
  Entry.KeptTo.settle (.of_set rfl rfl (dataLawful_answeredWith c d))

theorem Entry.keptTo_settleWord (e : Entry) (c : Code) (d : Word) : e.KeptTo (e.settleWord c d) :=
  Entry.KeptTo.settle (.of_set rfl rfl (dataLawful_answeredWith c d))

theorem Entry.keptTo_pendWord (e : Entry) : e.KeptTo e.pendWord := .of_set rfl rfl rfl

theorem Entry.keptTo_joinRun (e : Entry) (w : Option WindowId) (r : Option RecordId) : e.KeptTo (e.joinRun w r) :=
  .of_set rfl rfl rfl

theorem Entry.keptTo_holdWord (e : Entry) (x : HoldReason) (r : RecordId) (c : Tick) (m : Moment) :
    e.KeptTo (e.holdWord x r c m) := .of_same rfl rfl

/-- The unrouted words are answered with zero (R12, R16). -/
theorem Entry.keptTo_abandonUnrouted (e : Entry) (c : Code) : e.KeptTo (e.abandonUnrouted c) := by
  refine Entry.KeptTo.settle ⟨rfl, fun he o ho => ?_⟩
  obtain ⟨x, hx, rfl⟩ := List.mem_map.mp ho
  split
  · simp [WordOutcome.dataLawful]
  · exact he x hx

theorem Entry.keptTo_markRestart (e : Entry) (p : Hold → Bool) (m : Moment) : e.KeptTo (e.markRestart p m) := by
  have hf := e.markRestart_frame p m
  obtain ⟨htag, _, _, _, hout, _⟩ := hf
  exact .of_same htag hout

theorem Entry.keptTo_closeTick (e : Entry) (timeout : Nat) (t : Tick) : e.KeptTo (e.closeTick timeout t) := by
  unfold Entry.closeTick
  split <;> exact .of_same rfl rfl

/-- CLEAR aborts with zero (R16, R17). -/
theorem Entry.keptTo_clear (e : Entry) (n : Initiator) (issued : List WordRef) : e.KeptTo (e.clear n issued) := by
  unfold Entry.clear
  split
  · exact .refl e
  · refine Entry.KeptTo.settle ⟨rfl, fun he o ho => ?_⟩
    obtain ⟨⟨x, i⟩, hx, rfl⟩ := List.mem_map.mp ho
    have hlawful := he x (List.fst_mem_of_mem_zipIdx hx)
    cases x with
    | unknown => simp [WordOutcome.clear, WordOutcome.dataLawful]
    | answered c d => exact hlawful
    | pending =>
      simp only [WordOutcome.clear]
      split <;> simp [WordOutcome.dataLawful]

theorem QueueKept.refl (q : List Entry) : QueueKept q q := List.forall₂_same.mpr fun e _ => .refl e

theorem QueueKept.map {f : Entry → Entry} (hf : ∀ e, Entry.KeptTo e (f e)) (q : List Entry) : QueueKept q (q.map f) :=
  List.forall₂_map_right_iff.mpr (List.forall₂_same.mpr fun e _ => hf e)

theorem QueueKept.updateTagged {f : Entry → Entry} (hf : ∀ e, Entry.KeptTo e (f e)) (tag : Fin 4) (q : List Entry) :
    QueueKept q (updateTagged q tag f) :=
  .map (fun e => by split; exacts [hf e, .refl e]) q

theorem QueueKept.startAtClose (t : Tick) (q : List Entry) : QueueKept q (startAtClose t q) := by
  induction q with
  | nil => exact .nil
  | cons e q ih =>
    unfold Machine.startAtClose
    split
    · exact .cons (.of_same rfl rfl) (QueueKept.refl q)
    · exact .cons (.refl e) ih

theorem QueueKept.startOldest (q : List Entry) : QueueKept q (startOldest q) := by
  induction q with
  | nil => exact .nil
  | cons e q ih =>
    unfold Machine.startOldest
    split
    · exact .cons (.of_same rfl rfl) (QueueKept.refl q)
    · split
      · exact .cons (.refl e) ih
      · exact QueueKept.refl _

/-- One queue changed. -/
theorem QueueKept.updatePool {v : Vector (List Entry) 16} {f : List Entry → List Entry} (hf : ∀ q, QueueKept q (f q))
    (n k : Initiator) : QueueKept v[k] (updatePool v n f)[k] := by
  rw [getElem_updatePool]
  split
  · rename_i h
    rw [h]
    exact hf _
  · exact QueueKept.refl _

/-! ### Slots -/

/-- One staging slot changed, the others as they were: what the slot is used for stays, or is none. -/
theorem staging_set_kept {v : Vector StagingSlot 16} {slot : Fin 16} {x : StagingSlot}
    (htarget : x.target = none ∨ x.target = v[slot].target)
    (hgather : x.gathering = none ∨ x.gathering = v[slot].gathering) (i : Fin 16) :
    ((v.set slot x)[i].target = none ∨ (v.set slot x)[i].target = v[i].target)
      ∧ ((v.set slot x)[i].gathering = none ∨ (v.set slot x)[i].gathering = v[i].gathering) := by
  simp only [Fin.getElem_fin, Vector.getElem_set] at *
  by_cases h : slot.val = i.val
  · rw [if_pos h]
    simp only [h] at htarget hgather
    exact ⟨htarget, hgather⟩
  · rw [if_neg h]
    exact ⟨.inr rfl, .inr rfl⟩

/-- One snapshot slot changed, the others as they were. -/
theorem snapshots_set_kept {v : Vector SnapshotSlot 24} {slot : Fin 24} {x : SnapshotSlot}
    (huse : x.use = none ∨ x.use = v[slot].use) (i : Fin 24) : (v.set slot x)[i].use = none ∨ (v.set slot x)[i].use = v[i].use := by
  simp only [Fin.getElem_fin, Vector.getElem_set] at *
  by_cases h : slot.val = i.val
  · rw [if_pos h]
    simp only [h] at huse
    exact huse
  · rw [if_neg h]
    exact .inr rfl

end Sys2Proof.Machine

/-! From elementary changes to acts: each shared operation of the model is a sequence of elementary changes, and so is each
act of a command. -/

namespace Sys2Proof.Machine

/-! ### The interlock's table -/

/-- The numbers and records of the reservations, which no change of a standing reservation touches (R68). -/
abbrev reservationKeys (l : List Reservation) : List (Fin 8 × List RecordId) := l.map fun r => (r.id, r.records)

theorem reservationKeys_map {f : Reservation → Reservation} (hf : ∀ r, (f r).id = r.id ∧ (f r).records = r.records)
    (l : List Reservation) : reservationKeys (l.map f) = reservationKeys l := by
  simp [reservationKeys, Function.comp_def, hf]

/-- A change of some reservations that keeps their numbers and records. -/
theorem reservationKeys_map_if {f : Reservation → Reservation} (hf : ∀ r, (f r).id = r.id ∧ (f r).records = r.records)
    (p : Reservation → Prop) [DecidablePred p] (l : List Reservation) :
    reservationKeys (l.map fun r => if p r then f r else r) = reservationKeys l :=
  reservationKeys_map (fun r => by split; exacts [hf r, ⟨rfl, rfl⟩]) l

theorem Reservation.clear_keys {r r' : Reservation} (h : r.clear = some r') : (r'.id, r'.records) = (r.id, r.records) := by
  unfold Reservation.clear at h
  split at h <;> (rw [Option.ite_none_right_eq_some] at h; rw [← Option.some.inj h.2])

/-- CLEAR drops reservations and keeps the numbers and records of the others (R85). -/
theorem reservationKeys_clear (l : List Reservation) : (reservationKeys (l.filterMap Reservation.clear)).Sublist (reservationKeys l) := by
  induction l with
  | nil => exact .slnil
  | cons r l ih =>
    cases h : r.clear with
    | none => rw [List.filterMap_cons_none h]; exact ih.cons _
    | some r' =>
      rw [List.filterMap_cons_some h, reservationKeys, List.map_cons, Reservation.clear_keys h]
      exact ih.cons_cons _

/-! ### The freeing of a snapshot slot -/

/-- A freed snapshot slot is FREE, and the others stay, whatever else its freeing does (R89). -/
theorem State.freeSnapshot_snapshots (s : State) (slot : Fin 24) (m : Moment) :
    (s.freeSnapshot slot m).snapshots = s.snapshots.set slot .free := by
  unfold State.freeSnapshot
  split
  · rename_i h
    have hfree : s.snapshots[slot] = .free := by
      cases hx : s.snapshots[slot] with
      | free => rfl
      | loading _ _ _ _ => rw [hx] at h; cases h
      | held _ _ _ => rw [hx] at h; cases h
    rw [← hfree]
    simp
  · simp

/-- So is a slot that a latch releases (R94). -/
theorem State.releaseByLatch_snapshots (s : State) (slot : Fin 24) (m : Moment) :
    (s.releaseByLatch slot m).snapshots = s.snapshots.set slot .free := by
  unfold State.releaseByLatch
  split
  · rename_i h
    rw [← h]
    simp
  · exact s.freeSnapshot_snapshots slot m
  · rw [State.freeSnapshot_snapshots]
    simp

/-! ### Window entries -/

/-- A window change that keeps its range, its being OFF or not, and a lawful cursor. -/
theorem State.WindowKept.of_same {t : State} {w : WindowId} {x : Window}
    (cursor : t.windows[w].cursorLawful → x.cursorLawful) (off : x.state = .off ↔ t.windows[w].state = .off)
    (range : x.base = t.windows[w].base ∧ x.recordWords = t.windows[w].recordWords ∧ x.recordCount = t.windows[w].recordCount) :
    t.WindowKept w x :=
  ⟨cursor, fun h => ⟨.inl (mt off.mpr h), range⟩, fun h h' => absurd (off.mp h') h⟩

/-- The next sequence number is the window's alone (R75). -/
theorem State.windowKept_sequence (t : State) (w : WindowId) (q : BitVec 32) :
    t.WindowKept w { t.windows[w] with sequence := q } := .of_same id Iff.rfl ⟨rfl, rfl, rfl⟩

/-- A commit's end moves a lawful cursor to a lawful one (R35 to R37). -/
theorem Window.advance_cursorLawful {x : Window} (h : x.cursorLawful) : x.advance.cursorLawful := by
  obtain ⟨htable, hclosed, hopen⟩ := h
  unfold Window.advance
  split
  · exact ⟨htable, hclosed, hopen⟩
  · rename_i hkind
    obtain ⟨hstream, hnot⟩ : x.kind = .stream ∧ x.state ≠ .closed := by
      cases hk : x.kind <;> simp_all
    have hlt := hopen hstream hnot
    have hterminal : x.terminal = true ↔ x.cursor + 1 = x.recordCount := by simp [Window.terminal, hstream, hnot]
    split
    · rename_i hmid
      have : x.cursor + 1 ≠ x.recordCount := fun he => by simp [hterminal.mpr he] at hmid
      exact ⟨by simp [hstream], by simp [hnot], fun _ _ => by show x.cursor + 1 < x.recordCount; omega⟩
    · rename_i hend
      have hcount : x.cursor + 1 = x.recordCount := hterminal.mp (by simpa using hend)
      split
      · exact ⟨by simp [hstream], fun _ _ => ⟨hcount, by show 0 < x.recordCount; omega⟩, by simp⟩
      · exact ⟨by simp [hstream], by simp [hnot], fun _ _ => by show 0 < x.recordCount; omega⟩

/-- A commit's end leaves the window's range and an OFF window OFF (R38). -/
theorem Window.advance_frame (x : Window) : (x.advance.state = .off ↔ x.state = .off) ∧ x.advance.base = x.base
    ∧ x.advance.recordWords = x.recordWords ∧ x.advance.recordCount = x.recordCount := by
  unfold Window.advance
  (repeat' split) <;> simp_all

theorem State.windowKept_advance (t : State) (w : WindowId) : t.WindowKept w t.windows[w].advance := by
  have hf := t.windows[w].advance_frame
  exact .of_same Window.advance_cursorLawful hf.1 hf.2

/-- A cursor set to 0 outside CLOSED is lawful when there is a record (R35, R39). -/
theorem Window.cursorLawful_restart (x : Window) {state : WindowState} (hstate : state ≠ .closed) (hcount : 0 < x.recordCount) :
    ({ x with state := state, cursor := 0 } : Window).cursorLawful :=
  ⟨fun _ => ⟨rfl, hstate⟩, fun _ h => absurd h hstate, fun _ _ => hcount⟩

/-- Outside CLOSED the state does not bear on the cursor (R35). -/
theorem Window.cursorLawful.setState {x : Window} {state : WindowState} (h : x.cursorLawful) (hx : x.state ≠ .closed)
    (hstate : state ≠ .closed) : ({ x with state := state } : Window).cursorLawful := by
  obtain ⟨htable, _, hopen⟩ := h
  exact ⟨fun hk => ⟨(htable hk).1, hstate⟩, fun _ h => absurd h hstate, fun hk _ => hopen hk hx⟩

/-- A CLOSED window with a lawful cursor has a record (R36). -/
theorem Window.cursorLawful.pos_of_closed {x : Window} (h : x.cursorLawful) (hx : x.state = .closed) : 0 < x.recordCount := by
  obtain ⟨htable, hclosed, _⟩ := h
  cases hk : x.kind with
  | table => exact absurd hx (htable hk).2
  | stream => exact (hclosed hk hx).2

/-- Leaving CLOSED for another state, or going there from another, keeps a cursor lawful (R39). -/
theorem Window.cursorLawful.leaveClosed {x : Window} {state : WindowState} (h : x.cursorLawful) (hstate : state ≠ .closed) :
    ({ x.leaveClosed with state := state } : Window).cursorLawful := by
  unfold Window.leaveClosed
  split
  · rename_i hx
    exact x.cursorLawful_restart hstate (h.pos_of_closed hx)
  · rename_i hx
    exact h.setState hx hstate

/-- A window that has drained owns no slot (R29). -/
theorem State.windowKept_drained {t : State} {w : WindowId} (hstate : t.windows[w].state = .draining)
    (howns : t.ownsSlot w = false) : t.WindowKept w { t.windows[w] with state := .off } :=
  ⟨fun h => h.setState (fun e => by rw [e] at hstate; cases hstate) nofun, fun h => absurd rfl h, fun _ _ => howns⟩

/-- A window that leaves ACTIVE or CLOSED starts its cursor again when it was CLOSED (R27, R39). -/
theorem State.windowKept_disable {t : State} {w : WindowId} (hstate : t.windows[w].state ≠ .off) :
    t.WindowKept w { t.windows[w].leaveClosed with state := .draining } :=
  .of_same (fun h => h.leaveClosed nofun) ⟨nofun, fun h => absurd h hstate⟩
    (by unfold Window.leaveClosed; split <;> exact ⟨rfl, rfl, rfl⟩)

theorem State.windowKept_reopen {t : State} {w : WindowId} (hstate : t.windows[w].state = .closed) :
    t.WindowKept w { t.windows[w] with state := .active, cursor := 0 } :=
  .of_same (fun h => Window.cursorLawful_restart _ nofun (h.pos_of_closed hstate))
    ⟨nofun, fun h => by rw [h] at hstate; cases hstate⟩ ⟨rfl, rfl, rfl⟩

theorem State.windowKept_enable {t : State} {w : WindowId} (hoff : t.windows[w].state = .off) (hallowed : t.enableAllowed w = true) :
    t.WindowKept w { t.windows[w] with state := .active, cursor := 0, sequence := 0 } := by
  refine ⟨fun _ => ?_, fun _ => ⟨.inr hallowed, rfl, rfl, rfl⟩, fun h => absurd hoff h⟩
  have hcount : 0 < t.windows[w].recordCount := by
    simp only [State.enableAllowed, legalRecordCount, Bool.and_eq_true, decide_eq_true_eq] at hallowed
    omega
  exact Window.cursorLawful_restart _ nofun hcount

theorem State.windowKept_put {t : State} {w : WindowId} {x : Window} {base : Addr} {rw : Byte} {rc : BitVec 16} {flags : Byte}
    {ws rs : BitVec 16} {cls ev : Byte} (hoff : t.windows[w].state = .off)
    (hput : putOperand t.windows[w] base rw rc flags ws rs cls ev = some x) : t.WindowKept w x := by
  unfold putOperand at hput
  split at hput
  · cases hput
  · split at hput
    · rename_i hlegal
      simp only [legalRecordCount, Bool.and_eq_true, decide_eq_true_eq] at hlegal
      injection hput with hput
      subst hput
      have hopen : t.windows[w].state ≠ .closed := fun e => by rw [e] at hoff; cases hoff
      exact ⟨fun _ => ⟨fun _ => ⟨rfl, hopen⟩, fun _ h => absurd h hopen, fun _ _ => by show 0 < rc.toNat; omega⟩,
        fun h => absurd hoff h, fun h => absurd hoff h⟩
    · cases hput

/-! ### Paths -/

/-- What the choice of a path says of the state: a slot is opened for a record that has none, in a window that is not OFF, and
a latch is for such a window (R21, R46, R90). -/
def Path.Fits (t : State) : Path → Prop
  | .openSlot _ r _ _ => t.noStaging r ∧ t.windows[r.window].state ≠ .off
  | .latch r => t.windows[r.window].state ≠ .off
  | .refused _ | .passThrough | .store _ _ _ | .hold _ _ | .serve _ _ | .wait _ _ | .direct _ => True

/-- The window of an address is not OFF (R21). -/
theorem State.matchWindow_not_off {s : State} {a : Addr} {w : WindowId} (h : s.matchWindow a = some w) :
    s.windows[w].state ≠ .off := by
  have := findPool_some h
  simp only [Bool.and_eq_true, bne_iff_ne, ne_eq] at this
  exact this.1

theorem State.writePath_fits {s : State} {n : Initiator} {r : RecordId} {o : Nat} {d : Word}
    (h : s.windows[r.window].state ≠ .off) : (s.writePath n r o d).Fits s := by
  unfold State.writePath
  split
  · split
    · split <;> exact trivial
    · exact trivial
    · exact trivial
  · rename_i hnone
    split
    · exact trivial
    · split
      · exact ⟨State.stagingFor_eq_none.mp hnone, h⟩
      · exact trivial

theorem State.readPath_fits {s : State} {n : Initiator} {r : RecordId} {o : Nat}
    (h : s.windows[r.window].state ≠ .off) : (s.readPath n r o).Fits s := by
  unfold State.readPath
  split
  · exact trivial
  · split
    · split <;> exact trivial
    · split
      · exact trivial
      · split
        · exact trivial
        · split
          · exact trivial
          · exact h

theorem State.routePath_fits (s : State) (n : Initiator) (e : Entry) : (s.routePath n e).Fits s := by
  unfold State.routePath
  dsimp only
  split
  · exact trivial
  · rename_i w hw
    have hoff := State.matchWindow_not_off hw
    split
    · split
      · exact State.readPath_fits hoff
      · exact trivial
    · split
      · split
        · exact trivial
        · exact State.writePath_fits hoff
      · exact trivial

/-- A path still fits a state with the same windows and staging slots. -/
theorem Path.Fits.congr {s t : State} {p : Path} (hw : t.windows = s.windows) (hs : t.staging = s.staging) (h : p.Fits s) :
    p.Fits t := by
  cases p <;> simp only [Path.Fits, State.noStaging, hw, hs] at * <;> exact h

/-- A direct window read arrives without a change of windows or staging slots (R81, R82). -/
theorem State.arrive_direct_frame (s : State) (n : Initiator) (words : List WordRef) (a : Addr) (rs : List RecordId) :
    (s.arrive (.direct n words a) rs).windows = s.windows ∧ (s.arrive (.direct n words a) rs).staging = s.staging := by
  unfold State.arrive
  (repeat' split) <;> simp [State.take]

/-- Nor does a run's hand-over change them (R5, R6). -/
theorem State.handOverRun_slots (s : State) (n : Initiator) (tag : Fin 4) :
    (s.handOverRun n tag).windows = s.windows ∧ (s.handOverRun n tag).staging = s.staging := by
  unfold State.handOverRun
  split
  · exact ⟨rfl, rfl⟩
  · split
    · exact ⟨rfl, rfl⟩
    · dsimp only
      split
      · simp
      · refine ⟨(State.arrive_direct_frame _ _ _ _ _).1.trans ?_, (State.arrive_direct_frame _ _ _ _ _).2.trans ?_⟩ <;> simp

/-! ### Window states across takings -/

/-- A COMMIT's taking changes at most one window's sequence (R75). -/
theorem State.takeCommit_windows (s : State) (slot : Fin 16) (rs : List RecordId) :
    (s.takeCommit slot rs).windows = s.windows
      ∨ ∃ v q, (s.takeCommit slot rs).windows = updatePool s.windows v fun x => { x with sequence := q } := by
  unfold State.takeCommit
  split
  · exact .inr ⟨_, _, rfl⟩
  · exact .inl rfl
  · exact .inl rfl

/-- Taking an operation leaves every window in its state: a COMMIT changes the sequence alone (R75). -/
theorem State.take_windowState (s : State) (o : OpOwner) (rs : List RecordId) (w : WindowId) :
    (s.take o rs).windows[w].state = s.windows[w].state := by
  cases o with
  | commit slot =>
    rw [State.take]
    obtain h | ⟨v, q, h⟩ := s.takeCommit_windows slot rs
    · rw [h]
    · rw [h, getElem_updatePool]
      split
      · rename_i hv
        rw [hv]
      · rfl
  | load slot => simp [State.take]
  | direct n ws a => simp [State.take]

theorem State.arrive_windowState (s : State) (o : OpOwner) (rs : List RecordId) (w : WindowId) :
    (s.arrive o rs).windows[w].state = s.windows[w].state :=
  s.arrive_keeps (fun t => t.windows[w].state = s.windows[w].state) o rs (fun _ _ => s.take_windowState o rs w) fun _ => rfl

theorem State.scan_windowState (s : State) (w : WindowId) : s.scan.windows[w].state = s.windows[w].state :=
  s.scanFrom_keeps (fun t => t.windows[w].state = s.windows[w].state)
    (fun t item _ h _ _ => (t.take_windowState item.owner item.records w).trans h) (fun _ _ h => h) _ _ rfl

theorem State.freeSnapshot_windowState (s : State) (slot : Fin 24) (m : Moment) (w : WindowId) :
    (s.freeSnapshot slot m).windows[w].state = s.windows[w].state := by
  unfold State.freeSnapshot
  split
  · rfl
  · simp only [State.handOver_frame, State.markRestarts_frame, State.giveUpLoad]
    split
    · exact State.scan_windowState _ w
    · rfl

theorem State.arriveEach_windowState (s : State) (i : SnapshotInfo) (groups : List (List WaitingWord)) (w : WindowId) :
    (s.arriveEach i groups).windows[w].state = s.windows[w].state := by
  induction groups generalizing s with
  | nil => rfl
  | cons g gs ih => exact (ih _).trans (s.arrive_windowState _ _ w)

theorem State.releaseByLatch_windowState (s : State) (slot : Fin 24) (m : Moment) (w : WindowId) :
    (s.releaseByLatch slot m).windows[w].state = s.windows[w].state := by
  unfold State.releaseByLatch
  split
  · rfl
  · exact s.freeSnapshot_windowState slot m w
  · exact (State.freeSnapshot_windowState _ slot m w).trans (s.arriveEach_windowState _ _ w)

/-! ### Snapshot limits across a latch -/

/-- A slot count is a count over the pool (R88), and one slot's freeing lowers its reader's. -/
theorem countP_lt_of_imp {α : Type} {l : List α} {p q : α → Bool} (himp : ∀ a ∈ l, p a = true → q a = true) {a : α} (ha : a ∈ l)
    (hq : q a = true) (hp : p a = false) : l.countP p < l.countP q := by
  induction l with
  | nil => cases ha
  | cons b l ih =>
    have hle : l.countP p ≤ l.countP q := List.countP_mono_left fun x hx => himp x (by simp [hx])
    rcases List.mem_cons.mp ha with rfl | ha
    · simp [hq, hp]
      omega
    · have := ih (fun x hx => himp x (by simp [hx])) ha
      have hb := himp b (by simp)
      by_cases h : p b = true
      · simp [h, hb h, this]
      · simp [List.countP_cons, h]
        omega

theorem snapshots_set_free (v : Vector SnapshotSlot 24) (slot i : Fin 24) :
    (v.set slot .free)[i] = if i = slot then .free else v[i] := by
  simp only [Fin.getElem_fin, Vector.getElem_set]
  by_cases h : i = slot
  · simp [h]
  · rw [if_neg (fun e => h (Fin.ext e.symm)), if_neg h]

/-- Freeing a slot gives no reader a slot. -/
theorem heldFor_set_free {v : Vector SnapshotSlot 24} {slot i : Fin 24} {n : Initiator} {p : RecordId → Bool}
    (h : (v.set slot .free)[i].heldFor n p = true) : i ≠ slot ∧ v[i].heldFor n p = true := by
  rw [snapshots_set_free] at h
  split at h
  · cases h
  · rename_i hne
    exact ⟨hne, h⟩

/-- Freeing a slot of the reader lowers its count (R88). -/
theorem State.slotCount_set_free {s t : State} {slot : Fin 24} {n : Initiator} (ht : t.snapshots = s.snapshots.set slot .free) :
    t.slotCount n ≤ s.slotCount n
      ∧ (s.snapshots[slot].heldFor n (fun _ => true) = true → t.slotCount n < s.slotCount n) := by
  have himp : ∀ i ∈ List.finRange 24, t.snapshots[i].heldFor n (fun _ => true) = true →
      s.snapshots[i].heldFor n (fun _ => true) = true := fun i _ h => by
    rw [ht] at h
    exact (heldFor_set_free h).2
  refine ⟨List.countP_mono_left himp, fun hslot => countP_lt_of_imp himp (List.mem_finRange slot) hslot ?_⟩
  rw [ht, snapshots_set_free, if_pos rfl]
  rfl

/-- A slot for a record with the property is the reader's. -/
theorem SnapshotSlot.heldFor_any {x : SnapshotSlot} {n : Initiator} {p : RecordId → Bool} (h : x.heldFor n p = true) :
    x.heldFor n (fun _ => true) = true := by
  cases x <;> simp_all [SnapshotSlot.heldFor]

/-- A slot is the reader's for a record with the property exactly when its information says so. -/
theorem SnapshotSlot.heldFor_iff {x : SnapshotSlot} {n : Initiator} {p : RecordId → Bool} :
    x.heldFor n p = true ↔ ∃ i, x.info = some i ∧ i.reader = n ∧ p i.target = true := by
  cases x <;> simp [SnapshotSlot.heldFor, SnapshotSlot.info]

/-- Two slots of one reader in one window are one slot (R88). -/
theorem State.snapshotLimits.eq_of_heldFor {s : State} (h : s.snapshotLimits) {n : Initiator} {w : WindowId} {i j : Fin 24}
    (hi : s.snapshots[i].heldFor n (fun r => r.window == w) = true)
    (hj : s.snapshots[j].heldFor n (fun r => r.window == w) = true) : i = j := by
  obtain ⟨x, hx, hxn, hxw⟩ := SnapshotSlot.heldFor_iff.mp hi
  obtain ⟨y, hy, hyn, hyw⟩ := SnapshotSlot.heldFor_iff.mp hj
  simp only [beq_iff_eq] at hxw hyw
  exact h.2 i j x hx y hy (hxn.trans hyn.symm) (hxw.trans hyw.symm)

/-- The reader's slot in the window is one of its slots there (R88). -/
theorem State.snapshotIn_heldFor {s : State} {n : Initiator} {w : WindowId} {slot : Fin 24} (h : s.snapshotIn n w = some slot) :
    s.snapshots[slot].heldFor n (fun r => r.window == w) = true := by
  rw [← SnapshotSlot.info_any]
  exact findPool_some h

/-- A choice between slots of a list is one of them. -/
theorem State.foldl_olderSlot_mem (s : State) (l : List (Fin 24)) (i : Fin 24) : l.foldl s.olderSlot i ∈ i :: l := by
  induction l generalizing i with
  | nil => simp
  | cons j l ih =>
    have hchoice : s.olderSlot i j = i ∨ s.olderSlot i j = j := by
      unfold State.olderSlot
      split
      · split
        · exact .inr rfl
        · exact .inl rfl
      · exact .inl rfl
    have := ih (s.olderSlot i j)
    rw [List.foldl_cons]
    rcases List.mem_cons.mp this with h | h
    · rw [h]
      rcases hchoice with h | h <;> rw [h] <;> simp
    · simp [h]

/-- The slot of longest ago is one of the reader's (R88). -/
theorem State.oldestSlot_heldFor {s : State} {n : Initiator} {slot : Fin 24} (h : s.oldestSlot n = some slot) :
    s.snapshots[slot].heldFor n (fun _ => true) = true := by
  unfold State.oldestSlot at h
  split at h
  · cases h
  · rename_i i rest hl
    injection h with h
    have hmem : slot ∈ s.readerSlots n := by
      rw [hl, ← h]
      exact s.foldl_olderSlot_mem rest i
    rw [← SnapshotSlot.info_any]
    simpa [State.readerSlots] using hmem

/-- A reader with slots has one of longest ago. -/
theorem State.oldestSlot_none {s : State} {n : Initiator} (h : s.oldestSlot n = none) : s.slotCount n = 0 := by
  unfold State.oldestSlot at h
  split at h
  · rename_i hl
    rw [← State.readerSlots_length, hl]
    rfl
  · cases h

/-- The first release of a latch: the reader's slot in the window, if it has one (R93). -/
def State.latchFirst (s : State) (n : Initiator) (w : WindowId) (m : Moment) : State :=
  match s.snapshotIn n w with
  | some slot => s.releaseByLatch slot m
  | none => s

/-- The second release of a latch: the reader's slot of longest ago, while it still holds four (R93). -/
def State.latchSecond (s : State) (n : Initiator) (m : Moment) : State :=
  if (s.readerSlots n).length < Config.slotsPerReader then s
  else match s.oldestSlot n with
    | some slot => s.releaseByLatch slot m
    | none => s

/-- The releases of a latch are these two (R93). -/
theorem State.latchReleases_eq (s : State) (n : Initiator) (w : WindowId) (m : Moment) :
    s.latchReleases n w m = (s.latchFirst n w m).latchSecond n m := rfl

/-- A latch's releases leave every window in its state (R93). -/
theorem State.latchReleases_windowState (s : State) (n : Initiator) (w v : WindowId) (m : Moment) :
    (s.latchReleases n w m).windows[v].state = s.windows[v].state := by
  have hfirst : (s.latchFirst n w m).windows[v].state = s.windows[v].state := by
    unfold State.latchFirst
    split
    · exact s.releaseByLatch_windowState _ m v
    · rfl
  rw [State.latchReleases_eq, State.latchSecond]
  split
  · exact hfirst
  · split
    · exact (State.releaseByLatch_windowState _ _ m v).trans hfirst
    · exact hfirst

/-- After the first release the reader has no slot in the window, and fewer slots when there was one (R93). -/
theorem State.latchFirst_room {s : State} (h : s.snapshotLimits) (n : Initiator) (w : WindowId) (m : Moment) :
    (s.latchFirst n w m).noSnapshot n (fun y => y.window == w) ∧ (s.latchFirst n w m).slotCount n ≤ Config.slotsPerReader := by
  unfold State.latchFirst
  split
  · rename_i slot hslot
    have hset := s.releaseByLatch_snapshots slot m
    refine ⟨fun j => ?_, le_trans (State.slotCount_set_free hset).1 (h.1 n)⟩
    rw [hset, Bool.eq_false_iff]
    intro hj
    obtain ⟨hne, hold⟩ := heldFor_set_free hj
    exact hne (h.eq_of_heldFor hold (State.snapshotIn_heldFor hslot))
  · rename_i hnone
    exact ⟨State.snapshotIn_eq_none.mp hnone, h.1 n⟩

/-- After a latch's releases the reader has fewer than four slots, and none in the window (R93). -/
theorem State.latchReleases_room {s : State} (h : s.snapshotLimits) (n : Initiator) (w : WindowId) (m : Moment) :
    (s.latchReleases n w m).slotCount n < Config.slotsPerReader
      ∧ (s.latchReleases n w m).noSnapshot n fun y => y.window == w := by
  obtain ⟨hnone, hcount⟩ := s.latchFirst_room h n w m
  rw [State.latchReleases_eq]
  generalize s.latchFirst n w m = t at hnone hcount
  unfold State.latchSecond
  split
  · rename_i hlt
    exact ⟨State.readerSlots_length ▸ hlt, hnone⟩
  · rename_i hge
    rw [State.readerSlots_length] at hge
    split
    · rename_i slot hslot
      have hset := t.releaseByLatch_snapshots slot m
      refine ⟨lt_of_lt_of_le ((State.slotCount_set_free hset).2 (State.oldestSlot_heldFor hslot)) hcount, fun j => ?_⟩
      rw [hset, Bool.eq_false_iff]
      intro hj
      have := hnone j
      rw [(heldFor_set_free hj).2] at this
      cases this
    · rename_i hzero
      exact absurd (State.oldestSlot_none hzero) (fun e => hge (by rw [e]; decide))

end Sys2Proof.Machine

/-! Each shared operation of the model keeps what every elementary change keeps, in the order of the model's definitions. -/

namespace Sys2Proof.Machine.Kept

variable {P : State → Prop} (K : Kept P) {t : State}

include K

/-! ### Queues, events and windows -/

theorem respond (x : Status) (r : List Byte) (h : P t) : P (t.respond x r) := K.link _ _ h

theorem handOver (x : HandOver) (h : P t) : P (t.handOver x) := K.transit _ _ h

theorem raise (c : ClassId) (e : Event) (h : P t) : P (t.raise c e) := K.handOver _ h

theorem raiseWindow (w : WindowId) (e : Event) (h : P t) : P (t.raiseWindow w e) := K.raise _ _ h

theorem raiseIf (b : Bool) (w : WindowId) (e : Event) (h : P t) : P (t.raiseIf b w e) := by
  unfold State.raiseIf
  split
  · exact K.raiseWindow _ _ h
  · exact h

theorem updateQueue {f : List Entry → List Entry} (hf : ∀ q, QueueKept q (f q)) (n : Initiator) (h : P t) :
    P (t.setQueues (updatePool t.queues n f)) :=
  K.queues _ _ (QueueKept.updatePool hf n) h

theorem updateEntry {f : Entry → Entry} (hf : ∀ e, Entry.KeptTo e (f e)) (n : Initiator) (tag : Fin 4) (h : P t) :
    P (t.updateEntry n tag f) := K.updateQueue (.updateTagged hf tag) n h

theorem mapEntries {f : Entry → Entry} (hf : ∀ e, Entry.KeptTo e (f e)) (h : P t) :
    P (t.setQueues (mapPool t.queues fun q => q.map f)) :=
  K.queues _ _ (fun n => by rw [Fin.getElem_fin, Fin.getElem_fin, getElem_mapPool]; exact .map hf _) h

theorem markRestarts (p : Hold → Bool) (m : Moment) (h : P t) : P (t.markRestarts p m) :=
  K.mapEntries (fun e => e.keptTo_markRestart p m) h

theorem passClosing (n : Initiator) (m : Moment) (h : P t) : P (t.passClosing n m) := by
  unfold State.passClosing
  split
  · exact K.updateQueue (.startAtClose m.tick) n h
  · exact h

theorem answer (r : WordRef) (c : Code) (d : Word) (h : P t) : P (t.answer r c d) :=
  K.updateEntry (fun e => e.keptTo_answer r.position c d) _ _ h

theorem answerEach (refs : List WordRef) (c : Code) (d : List Word) (h : P t) : P (t.answerEach refs c d) := by
  induction refs generalizing t d with
  | nil => exact h
  | cons r rs ih => exact ih _ (K.answer r c _ h)

theorem updateWindow {w : WindowId} {f : Window → Window} (hw : t.WindowKept w (f t.windows[w])) (h : P t) :
    P (t.updateWindow w f) := K.window _ _ _ hw h

theorem countEvent (c : ClassId) (e : Event) (h : P t) : P (t.countEvent c e) := K.notice _ _ (.count c e) h

theorem drainCheck (w : WindowId) (m : Moment) (h : P t) : P (t.drainCheck w m) := by
  unfold State.drainCheck
  split
  · rename_i hdrain
    simp only [Bool.and_eq_true, Bool.not_eq_true', decide_eq_true_eq] at hdrain
    exact K.markRestarts _ _ (K.raiseWindow _ _ (K.updateWindow (State.windowKept_drained hdrain.1 hdrain.2) h))
  · exact h

theorem setStagingSlot {slot : Fin 16} {x : StagingSlot} (htarget : x.target = none ∨ x.target = t.staging[slot].target)
    (hgather : x.gathering = none ∨ x.gathering = t.staging[slot].gathering) (h : P t) :
    P (t.setStaging (t.staging.set slot x)) := K.staging _ _ (staging_set_kept htarget hgather) h

theorem setSnapshotSlot {slot : Fin 24} {x : SnapshotSlot} (huse : x.use = none ∨ x.use = t.snapshots[slot].use) (h : P t) :
    P (t.setSnapshots (t.snapshots.set slot x)) := K.snapshots _ _ (snapshots_set_kept huse) h

theorem freeStaging (slot : Fin 16) (m : Moment) (h : P t) : P (t.freeStaging slot m) := by
  unfold State.freeStaging
  split
  · exact h
  · exact K.handOver _ (K.markRestarts _ _ (K.setStagingSlot (.inl rfl) (.inl rfl) h))

/-! ### The interlock -/

theorem setTable {l : List Reservation} (hl : (reservationKeys l).Sublist (reservationKeys t.interlock.table)) (h : P t) :
    P (t.setInterlock { t.interlock with table := l }) := K.interlock _ _ hl h

theorem setWaitList (l : List WaitItem) (h : P t) : P (t.setWaitList l) := K.interlock _ _ (.refl _) h

theorem updateReservation {f : Reservation → Reservation} (hf : ∀ r, (f r).id = r.id ∧ (f r).records = r.records) (id : Fin 8)
    (h : P t) : P (t.updateReservation id f) :=
  K.setTable (by rw [reservationKeys_map_if hf]) h

theorem setDirect (v : Vector (List DirectItem) 16) (h : P t) : P (t.setPort { t.port with direct := v }) :=
  K.port _ _ (.inl le_rfl) h

theorem take (o : OpOwner) (rs : List RecordId) (hroom : tableHasRoom t.interlock.table = true)
    (hfree : recordsFree rs (t.interlock.table.map (·.records)) = true) (h : P t) : P (t.take o rs) := by
  cases o with
  | commit slot =>
    simp only [State.take, State.takeCommit]
    split
    · rename_i g info hslot
      refine K.reserve _ _ _ _ hroom hfree (K.setStagingSlot ?_ (.inl rfl) ?_)
      · exact .inr (by simp only [State.updateWindow_frame]; rw [hslot]; rfl)
      · exact K.updateWindow (State.windowKept_sequence _ _ _) h
    · exact K.reserve _ _ _ _ hroom hfree h
    · exact K.reserve _ _ _ _ hroom hfree h
  | load slot =>
    simp only [State.take, State.takeLoad]
    split <;> exact K.reserve _ _ _ _ hroom hfree h
  | direct n words a => exact K.setDirect _ (K.reserve _ _ _ _ hroom hfree h)

theorem take_unblocked (o : OpOwner) (rs : List RecordId) (older : List WaitItem) (hroom : tableHasRoom t.interlock.table = true)
    (hfree : unblocked rs t.interlock.table older = true) (h : P t) : P (t.take o rs) := by
  simp only [unblocked, Bool.and_eq_true] at hfree
  exact K.take o rs hroom hfree.1 h

theorem arrive (o : OpOwner) (rs : List RecordId) (h : P t) : P (t.arrive o rs) :=
  t.arrive_keeps P o rs (fun hroom hfree => K.take_unblocked o rs _ hroom hfree h) fun l => K.setWaitList l h

theorem scan (h : P t) : P t.scan :=
  t.scanFrom_keeps P (fun _ item older hu hroom hfree => K.take_unblocked item.owner item.records older hroom hfree hu)
    (fun _ l hu => K.setWaitList l hu) _ _ h

theorem release (id : Fin 8) (h : P t) : P (t.release id) :=
  K.scan (K.setTable (List.filter_sublist.map _) h)

theorem giveUpLoad (slot : Fin 24) (h : P t) : P (t.giveUpLoad slot) := by
  unfold State.giveUpLoad
  split
  · exact K.scan (K.setWaitList _ h)
  · refine K.setTable ?_ h
    rw [reservationKeys_map fun r => by unfold Reservation.orphan; split <;> exact ⟨rfl, rfl⟩]

theorem freeSnapshot (slot : Fin 24) (m : Moment) (h : P t) : P (t.freeSnapshot slot m) := by
  unfold State.freeSnapshot
  split
  · exact h
  · exact K.handOver _ (K.markRestarts _ _ (K.giveUpLoad _ (K.setSnapshotSlot (.inl rfl) h)))

theorem arriveEach (i : SnapshotInfo) (groups : List (List WaitingWord)) (h : P t) : P (t.arriveEach i groups) := by
  induction groups generalizing t with
  | nil => exact h
  | cons g gs ih => exact ih (K.arrive _ _ h)

theorem releaseByLatch (slot : Fin 24) (m : Moment) (h : P t) : P (t.releaseByLatch slot m) := by
  unfold State.releaseByLatch
  split
  · exact h
  · exact K.freeSnapshot _ _ h
  · exact K.freeSnapshot _ _ (K.arriveEach _ _ h)

theorem handOverRun (n : Initiator) (tag : Fin 4) (h : P t) : P (t.handOverRun n tag) := by
  unfold State.handOverRun
  split
  · exact h
  · split
    · exact h
    · have hrun : P (t.updateEntry n tag fun x => { x with run := none }) := 
        K.updateEntry (f := fun x => { x with run := none }) (fun _ => .of_same rfl rfl) _ _ h
      dsimp only
      split
      · exact K.setDirect _ hrun
      · exact K.arrive _ _ hrun

theorem takeHandOver (x : HandOver) (h : P t) : P (t.takeHandOver x) := by
  cases x with
  | event c e => exact K.countEvent c e h
  | slotFreed w closing => exact K.drainCheck _ _ h
  | release id => exact K.release _ h

/-! ### Routing -/

/-- A word stored in a slot, which takes up the record or has it already (R47, R48, R49). -/
theorem storeWord {slot : Fin 16} {g : Gather} {timer : Timer} (hset : ∀ x : StagingSlot, x.target = some g.target →
      (x.gathering = none ∨ x.gathering = some g.target) → P (t.setStaging (t.staging.set slot x)))
    (ref : WordRef) (offset : Nat) (data : Word) : P (t.storeWord ref slot g timer offset data) := by
  unfold State.storeWord
  dsimp only
  split
  · exact K.arrive _ _ (K.updateEntry (fun e => e.keptTo_pendWord) _ _ (hset _ rfl (.inl rfl)))
  · exact K.updateEntry (fun e => e.keptTo_settleWord _ _) _ _ (hset _ rfl (.inr rfl))

theorem markServed (slot : Fin 24) (offset : Nat) (m : Moment) (h : P t) : P (t.markServed slot offset m) := by
  refine K.snapshotUses _ _ (K.setSnapshotSlot (.inr ?_) h)
  cases hx : t.snapshots[slot] <;> rfl

theorem releaseIfRead (slot : Fin 24) (m : Moment) (h : P t) : P (t.releaseIfRead slot m) := by
  unfold State.releaseIfRead
  split
  · exact K.freeSnapshot _ _ h
  · exact h

theorem latchReleases (n : Initiator) (w : WindowId) (m : Moment) (h : P t) : P (t.latchReleases n w m) := by
  rw [State.latchReleases_eq]
  have hfirst : P (t.latchFirst n w m) := by
    unfold State.latchFirst
    split
    · exact K.releaseByLatch _ _ h
    · exact h
  unfold State.latchSecond
  split
  · exact hfirst
  · split
    · exact K.releaseByLatch _ _ hfirst
    · exact hfirst

/-- A snapshot slot taken by a latch from the state `u` (R93). -/
theorem takeSnapshotSlot {u : State} (ref : WordRef) (r : RecordId) (m : Moment) (hu : P u)
    (hroom : u.snapshotLimits → t.slotCount ref.initiator < Config.slotsPerReader
      ∧ t.noSnapshot ref.initiator fun y => y.window == r.window)
    (hoff : t.windows[r.window].state ≠ .off) (h : P t) : P (t.takeSnapshotSlot ref r m) := by
  unfold State.takeSnapshotSlot
  split
  · exact h
  · exact K.arrive _ _ (K.snapshotUses _ _ (K.openSnapshot u t _ _ ref.initiator r rfl hu hroom hoff h))

end Sys2Proof.Machine.Kept

/-! Each act of a command keeps what every elementary change keeps, and so does each step. -/

namespace Sys2Proof.Machine

/-- The reservation's burst issued, its number and records stay (R68). -/
theorem Reservation.issued_keys (r : Reservation) : r.issued.id = r.id ∧ r.issued.records = r.records := ⟨rfl, rfl⟩

/-- CLEAR block by block (R185). -/
theorem State.clearBlocks_eq (s : State) : s.clearBlocks =
    { s with
      partState := .clearing, queues := s.clearBlocks.queues, windows := mapPool s.windows Window.clear
      staging := s.clearBlocks.staging, snapshots := s.clearBlocks.snapshots, interlock := s.clearBlocks.interlock
      port := s.clearBlocks.port, notice := s.clearBlocks.notice } := rfl

namespace Kept

variable {P : State → Prop} (K : Kept P) {t : State}

include K

/-! ### Routing -/

theorem follow (ref : WordRef) (p : Path) (m : Moment) (hfits : p.Fits t) (h : P t) : P (t.follow ref p m) := by
  have hentry {f : Entry → Entry} (hf : ∀ e, Entry.KeptTo e (f e)) : P (t.updateEntry ref.initiator ref.tag f) :=
    K.updateEntry hf _ _ h
  cases p with
  | refused r => exact K.raiseIf _ _ _ (hentry fun e => e.keptTo_settleWord _ _)
  | passThrough => exact hentry fun e => e.keptTo_joinRun _ _
  | direct r => exact hentry fun e => e.keptTo_joinRun _ _
  | hold reason r => exact hentry fun e => e.keptTo_holdWord _ _ _ _
  | store slot offset data =>
    simp only [State.follow]
    split
    · rename_i g timer hslot
      refine K.storeWord (fun x htarget hgather => K.setStagingSlot (.inr ?_) ?_ h) _ _ _
      · rw [htarget, hslot]
        rfl
      · rw [hslot]
        exact hgather
    · exact h
    · exact h
  | openSlot slot r offset data =>
    exact K.storeWord (fun x htarget _ => K.openStaging _ _ _ r htarget hfits.1 hfits.2 h) _ _ _
  | serve slot offset =>
    exact K.releaseIfRead _ _ (K.markServed _ _ _ (hentry fun e => e.keptTo_settleWord _ _))
  | wait slot offset =>
    refine K.setSnapshotSlot (.inr ?_) (hentry fun e => e.keptTo_pendWord)
    simp only [State.updateEntry_frame]
    cases t.snapshots[slot] <;> rfl
  | latch r =>
    have hpend : P (t.updateEntry ref.initiator ref.tag Entry.pendWord) := hentry fun e => e.keptTo_pendWord
    refine K.takeSnapshotSlot ref r m hpend (fun hlimits => State.latchReleases_room hlimits _ _ m) ?_ (K.latchReleases _ _ _ hpend)
    rw [State.latchReleases_windowState]
    exact hfits

theorem endRouting (n : Initiator) (tag : Fin 4) (m : Moment) (h : P t) : P (t.endRouting n tag m) := by
  unfold State.endRouting
  split
  · exact K.passClosing _ _ (K.handOverRun _ _ h)
  · exact h

theorem routeEntry (n : Initiator) (e : Entry) (m : Moment) (h : P t) : P (t.routeEntry n e m) := by
  unfold State.routeEntry
  dsimp only
  refine K.endRouting _ _ _ (K.follow _ _ _ ?_ ?_)
  · split
    · exact t.routePath_fits n e
    · exact (t.routePath_fits n e).congr (t.handOverRun_slots n e.tag).1 (t.handOverRun_slots n e.tag).2
  · split
    · exact h
    · exact K.handOverRun _ _ h

theorem routeNext (n : Initiator) (h : P t) : P (t.routeNext n) := by
  unfold State.routeNext
  split
  · exact K.routeEntry _ _ _ h
  · exact h

theorem restartHeld (n : Initiator) (h : P t) : P (t.restartHeld n) := by
  unfold State.restartHeld
  split
  · split
    · exact K.routeEntry _ _ _ (K.updateEntry (fun _ => by exact .of_same rfl rfl) _ _ h)
    · exact h
  · exact h

/-! ### Requests, holds and responses -/

theorem takeRequest (n : Initiator) (a : Addr) (x : Transfer) (hready : t.ready n = true) (h : P t) : P (t.takeRequest n a x) := by
  simp only [State.ready, Bool.and_eq_true, decide_eq_true_eq] at hready
  have hjoin := K.join t n a x hready.2 h
  unfold State.takeRequest
  dsimp only
  split
  · exact K.raise _ _ hjoin
  · exact hjoin

theorem holdTimeout (n : Initiator) (h : P t) : P (t.holdTimeout n) := by
  unfold State.holdTimeout
  split
  · exact h
  · split
    · exact h
    · split
      · exact K.passClosing _ _ (K.raiseWindow _ _ (K.updateEntry (fun e => e.keptTo_abandonUnrouted _) _ _ h))
      · exact h

theorem returnHead (n : Initiator) (h : P t) : P (t.returnHead n) := by
  unfold State.returnHead
  split
  · exact h
  · rename_i e rest hq
    split
    · exact K.lastResponse _ _ (K.leave _ _ _ _ hq h)
    · exact h

/-! ### Grants -/

theorem issue (q : Requester) (b : Burst) (o : BurstOwner) (hroom : t.port.hasRoom = true) (h : P t) : P (t.issue q b o) := by
  simp only [MemoryPort.hasRoom, decide_eq_true_eq] at hroom
  exact K.port _ _ (.inr (by simp only [List.length_append, List.length_singleton]; omega)) h

theorem issueReservation (q : Requester) (r : Reservation) (hroom : t.port.hasRoom = true) (h : P t) :
    P (t.issueReservation q r) :=
  K.issue _ _ _ hroom (K.updateReservation Reservation.issued_keys _ h)

theorem issuePassThrough (b : Burst) (refs : List WordRef) (hroom : t.port.hasRoom = true) (h : P t) :
    P (t.issuePassThrough b refs) := by
  have hissued := K.issue .direct b (.words refs) hroom h
  unfold State.issuePassThrough
  dsimp only
  split
  · exact K.notice _ _ (.observe _) hissued
  · exact hissued

theorem issueDirect (hroom : t.port.hasRoom = true) (h : P t) : P t.issueDirect := by
  unfold State.issueDirect
  split
  · exact h
  · split
    · exact h
    · rename_i n _ _ item rest _
      have hserved : P (t.setPort { t.port with direct := t.port.direct.set n rest, lastServed := n }) :=
        K.port _ _ (.inl le_rfl) h
      dsimp only
      split
      · exact K.issuePassThrough _ _ hroom hserved
      · split
        · exact K.issueReservation _ _ hroom hserved
        · exact hserved

theorem grant (h : P t) : P t.grant := by
  unfold State.grant
  split
  · rename_i q hq
    have hroom : t.port.hasRoom = true := by
      unfold State.grantee at hq
      split at hq
      · assumption
      · cases hq
    have hrotated : (t.port.rotate q).outstanding = t.port.outstanding := by
      unfold MemoryPort.rotate
      split <;> rfl
    have hroom' : (t.setPort (t.port.rotate q)).port.hasRoom = true := by
      rw [State.setPort_port, MemoryPort.hasRoom, hrotated]
      exact hroom
    have hport : P (t.setPort (t.port.rotate q)) := K.port _ _ (.inl (by rw [hrotated])) h
    cases q with
    | direct => exact K.issueDirect hroom' hport
    | commit =>
      simp only [State.issueFrom, State.issueCommit]
      split
      · exact K.issueReservation _ _ hroom' hport
      · exact hport
    | load =>
      simp only [State.issueFrom, State.issueLoad]
      split
      · exact K.issueReservation _ _ hroom' hport
      · exact hport
    | notice =>
      simp only [State.issueFrom, State.issueNotice]
      split
      · rename_i w hw
        exact K.issue _ _ _ hroom' (K.notice _ _ (.issue w hw) hport)
      · exact hport
  · exact h

/-! ### Responses of the memory -/

theorem completeCommit (g : Gather) (q : BitVec 32) (time : Tick) (h : P t) : P (t.completeCommit g q time) := by
  have hmoved : P (t.updateWindow g.target.window Window.advance) := K.updateWindow (t.windowKept_advance _) h
  unfold State.completeCommit
  dsimp only
  split
  · exact hmoved
  · exact K.raiseIf _ _ _ (K.raiseIf _ _ _ (K.raiseIf _ _ _ hmoved))

theorem requestAgain (id : Fin 8) (h : P t) : P (t.requestAgain id) := K.updateReservation (fun _ => by exact ⟨rfl, rfl⟩) _ h

theorem commitResponse (id : Fin 8) (slot : Fin 16) (x : MemStatus) (h : P t) : P (t.commitResponse id slot x) := by
  unfold State.commitResponse
  split
  · rename_i g info hslot
    split
    · exact K.freeStaging _ _ (K.answer _ _ _ (K.completeCommit _ _ _ (K.handOver _ h)))
    · split
      · exact K.freeStaging _ _ (K.answer _ _ _ (K.raiseIf _ _ _ (K.handOver _ h)))
      · exact K.setStagingSlot (slot := slot) (.inr (by rw [show (t.requestAgain id).staging = t.staging from rfl, hslot]; rfl))
          (.inl rfl) (K.requestAgain id h)
  · exact h
  · exact h

theorem serveWaiting (slot : Fin 24) (waiting : List WaitingWord) (m : Moment) (h : P t) : P (t.serveWaiting slot waiting m) := by
  induction waiting generalizing t with
  | nil => exact h
  | cons w rest ih => exact ih (K.markServed _ _ _ (K.answer _ _ _ h))

theorem loadFails (id : Fin 8) (slot : Fin 24) (i : SnapshotInfo) (waiting : List WaitingWord) (kind : EventKind)
    (sequence : Option (BitVec 32)) (code : Code) (h : P t) : P (t.loadFails id slot i waiting kind sequence code) :=
  K.freeSnapshot _ _ (K.answerEach _ _ _ (K.raiseWindow _ _ (K.handOver _ h)))

theorem loadResponse (id : Fin 8) (slot : Fin 24) (x : MemStatus) (words : List Word) (h : P t) :
    P (t.loadResponse id slot x words) := by
  unfold State.loadResponse
  split
  · rename_i i retry reload waiting hslot
    have huse {y : SnapshotSlot} (hy : y.use = some (i.reader, i.target)) : P (t.setSnapshots (t.snapshots.set slot y)) :=
      K.setSnapshotSlot (.inr (by rw [hy, hslot]; rfl)) h
    have hagain {y : SnapshotSlot} (hy : y.use = some (i.reader, i.target)) :
        P ((t.requestAgain id).setSnapshots (t.snapshots.set slot y)) := K.requestAgain id (huse hy)
    split
    · split
      · exact K.loadFails _ _ _ _ _ _ _ h
      · exact hagain rfl
    · split
      · exact K.releaseIfRead _ _ (K.serveWaiting _ _ _ (K.snapshotUses _ _ (K.handOver _ (huse rfl))))
      · split
        · exact K.loadFails _ _ _ _ _ _ _ h
        · exact hagain rfl
  · exact h
  · exact h

theorem deliver (item : Outstanding) (x : MemStatus) (data : List Word) (h : P t) : P (t.deliver item x data) := by
  unfold State.deliver
  split
  · exact K.answerEach _ _ _ h
  · exact K.notice _ _ (.response x) h
  · split
    · exact h
    · split
      · exact K.answerEach _ _ _ (K.handOver _ h)
      · exact K.commitResponse _ _ _ h
      · exact K.handOver _ h
      · exact K.loadResponse _ _ _ _ h

theorem respondMemory (x : MemStatus) (d : Vector Word 32) (h : P t) : P (t.respondMemory x d) := by
  unfold State.respondMemory
  split
  · exact h
  · rename_i item rest hout
    exact K.deliver _ _ _ (K.port _ _ (.inl (by rw [hout]; simp)) h)

theorem writerTest (h : P t) : P t.writerTest := by
  unfold State.writerTest
  split
  · exact K.notice _ _ .start h
  · exact h

/-! ### Time -/

theorem closeTick (h : P t) : P t.closeTick := by
  refine K.timeBase _ _ (K.snapshots _ _ (fun i => .inr ?_) (K.staging _ _ (fun i => ⟨.inr ?_, .inr ?_⟩)
    (K.mapEntries (fun e => e.keptTo_closeTick _ _) h)))
  · rw [Fin.getElem_fin, getElem_mapPool]
    simp only [State.setStaging_snapshots, State.setQueues_snapshots, Fin.getElem_fin]
    cases t.snapshots[i.val] <;> rfl
  · rw [Fin.getElem_fin, getElem_mapPool]
    simp only [State.setQueues_staging, Fin.getElem_fin]
    cases t.staging[i.val] <;> rfl
  · rw [Fin.getElem_fin, getElem_mapPool]
    simp only [State.setQueues_staging, Fin.getElem_fin]
    cases t.staging[i.val] <;> rfl

theorem abandon (slot : Fin 16) (m : Moment) (h : P t) : P (t.abandon slot m) := by
  unfold State.abandon
  split
  · exact K.freeStaging _ _ (K.raiseWindow _ _ h)
  · exact h
  · exact h

theorem abandonEach (slots : List (Fin 16)) (m : Moment) (h : P t) : P (t.abandonEach slots m) := by
  induction slots generalizing t with
  | nil => exact h
  | cons i rest ih => exact ih (K.abandon i m h)

theorem gatherExpiry (slot : Fin 16) (h : P t) : P (t.gatherExpiry slot) := by
  unfold State.gatherExpiry
  split
  · split
    · exact K.abandon _ _ h
    · exact h
  · exact h
  · exact h

theorem snapshotExpiry (slot : Fin 24) (h : P t) : P (t.snapshotExpiry slot) := by
  unfold State.snapshotExpiry
  split
  · split
    · exact K.freeSnapshot _ _ (K.raiseIf _ _ _ h)
    · exact h
  · exact h
  · exact h

/-! ### Link commands -/

theorem putWindowRule (w : WindowId) (base : Addr) (rw : Byte) (rc : BitVec 16) (flags : Byte) (ws rs : BitVec 16) (cls ev : Byte)
    (h : P t) : P (t.putWindowRule w fun old => putOperand old base rw rc flags ws rs cls ev) := by
  unfold State.putWindowRule
  split
  · exact K.respond _ _ h
  · rename_i hoff
    split
    · exact K.respond _ _ h
    · rename_i x hput
      exact K.respond _ _ (K.window _ _ _ (State.windowKept_put (not_not.mp hoff) hput) h)

theorem enableRule (w : WindowId) (h : P t) : P (t.enableRule w) := by
  unfold State.enableRule
  split
  · exact K.respond _ _ h
  · rename_i hoff
    split
    · exact K.respond _ _ h
    · rename_i hallowed
      split
      · exact K.respond _ _ h
      · exact K.respond _ _ (K.updateWindow (State.windowKept_enable (not_not.mp hoff) (by simpa using hallowed)) h)

theorem disableRule (w : WindowId) (h : P t) : P (t.disableRule w) := by
  unfold State.disableRule
  have hdrain (hoff : t.windows[w].state ≠ .off) :
      P (t.updateWindow w fun x => { x.leaveClosed with state := .draining }) := K.updateWindow (State.windowKept_disable hoff) h
  split
  · exact K.respond _ _ h
  · exact K.respond _ _ h
  · rename_i hs
    exact K.respond _ _ (K.drainCheck _ _ (hdrain (by rw [hs]; nofun)))
  · rename_i hs
    exact K.respond _ _ (K.drainCheck _ _ (hdrain (by rw [hs]; nofun)))

theorem reopenRule (w : WindowId) (h : P t) : P (t.reopenRule w) := by
  unfold State.reopenRule
  split
  · rename_i hclosed
    exact K.respond _ _ (K.updateWindow (State.windowKept_reopen hclosed) h)
  · exact K.respond _ _ h

theorem flushRule (w : WindowId) (h : P t) : P (t.flushRule w) := by
  unfold State.flushRule
  split
  · exact K.respond _ _ h
  · exact K.respond _ _ (K.abandonEach _ _ h)

theorem setRingRule (r : Ring) (fault : Byte) (h : P t) : P (t.setRingRule r fault) := by
  unfold State.setRingRule
  split
  · exact K.respond _ _ h
  · rename_i hidle
    simp only [Bool.or_eq_true, Bool.not_eq_true', List.isEmpty_eq_false_iff, not_or, not_not, Option.not_isSome_iff_eq_none] at hidle
    split
    · exact K.respond _ _ h
    · split
      · rename_i hallowed
        exact K.respond _ _ (K.ring _ _ _ hallowed hidle.1 hidle.2 h)
      · exact K.respond _ _ h

theorem setClassesRule (mode : Byte) (masked : BitVec 16) (h : P t) : P (t.setClassesRule mode masked) := by
  unfold State.setClassesRule
  split
  · exact K.respond _ _ h
  · exact K.respond _ _ (K.notice _ _ (.masks _ _) h)

theorem restartNoticesRule (h : P t) : P t.restartNoticesRule := by
  unfold State.restartNoticesRule
  split
  · rename_i hhalted
    exact K.respond _ _ (K.notice _ _ (.restart hhalted) h)
  · exact K.respond _ _ h

theorem setPortRule (mode : Byte) (h : P t) : P (t.setPortRule mode) := by
  unfold State.setPortRule
  split
  · exact K.respond _ _ h
  · exact K.respond _ _ (K.port _ _ (.inl le_rfl) h)

/-- CLEAR block by block, the windows last: by then no slot gathers or holds a snapshot (R43, R63, R84). -/
theorem clearBlocks (h : P t) : P t.clearBlocks := by
  have hqueues : P (t.setQueues t.clearBlocks.queues) :=
    K.queues _ _ (fun n => by
      simp only [State.clearBlocks, Fin.getElem_fin, Vector.getElem_ofFn]
      exact .map (fun e => e.keptTo_clear n _) _) h
  have hgather : ∀ i : Fin 16, t.clearBlocks.staging[i].gathering = none := fun i => by
    simp only [State.clearBlocks, Fin.getElem_fin, Vector.getElem_ofFn]
    cases t.staging[i.val] with
    | committing g info => simp only [StagingSlot.clear]; split <;> rfl
    | free => rfl
    | filling g timer => rfl
  have hstaging := K.staging _ t.clearBlocks.staging (fun i => ⟨by
    simp only [State.clearBlocks, Fin.getElem_fin, Vector.getElem_ofFn, State.setQueues_staging]
    cases t.staging[i.val] with
    | committing g info => simp only [StagingSlot.clear]; split; exacts [.inr rfl, .inl rfl]
    | free => exact .inl rfl
    | filling g timer => exact .inl rfl, .inl (hgather i)⟩) hqueues
  have hfree : ∀ i : Fin 24, t.clearBlocks.snapshots[i] = .free := fun i => by simp [State.clearBlocks]
  have hsnapshots := K.snapshots _ t.clearBlocks.snapshots (fun i => .inl (by rw [hfree i]; rfl)) hstaging
  have hinterlock := K.interlock _ t.clearBlocks.interlock (by
    simpa [State.clearBlocks] using reservationKeys_clear t.interlock.table) hsnapshots
  have hport := K.port _ t.clearBlocks.port (.inl (by simp [State.clearBlocks])) hinterlock
  have hnotice := K.notice _ t.clearBlocks.notice (by
    simpa [State.clearBlocks] using NoticeUnit.Move.empty (n := t.notice)) hport
  have hcleared := K.partState _ .clearing (K.windowsOff _ (mapPool t.windows Window.clear) (fun w => by
    rw [Fin.getElem_fin, getElem_mapPool]
    exact ⟨rfl, fun h => Window.cursorLawful.leaveClosed (by simpa using h) nofun⟩) (by simpa using hgather) (by simpa using hfree) hnotice)
  rw [State.clearBlocks_eq]
  simpa [State.setPartState, State.setWindows, State.setNotice, State.setPort, State.setInterlock, State.setSnapshots,
    State.setStaging, State.setQueues] using hcleared

/-- Every act of a command keeps what every elementary change keeps. -/
theorem acts : KeptByActs P where
  transit := K.transit
  heldBack := K.heldBack
  link := K.link
  timeBase := K.timeBase
  takeHandOver _ x := K.takeHandOver x
  takeRequest _ n a x := K.takeRequest n a x
  startOldest _ n := K.updateQueue .startOldest n
  routeNext _ n := K.routeNext n
  restartHeld _ n := K.restartHeld n
  holdTimeout _ n := K.holdTimeout n
  returnHead _ n := K.returnHead n
  grant _ := K.grant
  respondMemory _ x d := K.respondMemory x d
  writerTest _ := K.writerTest
  closeTick _ := K.closeTick
  gatherExpiry _ slot := K.gatherExpiry slot
  snapshotExpiry _ slot := K.snapshotExpiry slot
  clearingEnd t := K.partState t .running
  getStatusRule _ h := K.respond _ _ (K.notice _ _ .status h)
  putWindowRule _ w base rw rc flags ws rs cls ev _ := K.putWindowRule w base rw rc flags ws rs cls ev
  enableRule _ w _ := K.enableRule w
  disableRule _ w _ := K.disableRule w
  reopenRule _ w _ := K.reopenRule w
  flushRule _ w _ := K.flushRule w
  setRingRule _ r fault _ := K.setRingRule r fault
  setClassesRule _ mode masked _ := K.setClassesRule mode masked
  restartNoticesRule _ _ := K.restartNoticesRule
  setPortRule _ mode _ := K.setPortRule mode
  clearBlocks _ _ := K.clearBlocks

end Kept

end Sys2Proof.Machine

/-! The invariants of Safety.lean, each carried through the elementary changes that touch what it reads: the queues, the port's
outstanding list and the interlock's table. -/

namespace Sys2Proof.Machine

/-- A pool whose items are all `a` has the item `a` everywhere. -/
@[simp] theorem getElem_replicate_fin {α : Type} {n : Nat} (a : α) (i : Fin n) : (Vector.replicate n a)[i] = a := by simp

/-! ### The queues (R1, R5, R16) -/

/-- One queue is sound: at most four entries, tags of their own, and zero for every word not answered OK. -/
def QueueSound (q : List Entry) : Prop :=
  q.length ≤ Config.queueDepth ∧ (q.map (·.tag)).Nodup ∧ ∀ e ∈ q, e.dataLawful

theorem State.queuesSound_iff (s : State) : s.queuesSound ↔ ∀ n : Initiator, QueueSound s.queues[n] := Iff.rfl

theorem QueueKept.tags {q q' : List Entry} (h : QueueKept q q') : q'.map (·.tag) = q.map (·.tag) := by
  induction h with
  | nil => rfl
  | cons he _ ih => rw [List.map_cons, List.map_cons, he.tag, ih]

theorem QueueKept.data {q q' : List Entry} (h : QueueKept q q') (hq : ∀ e ∈ q, e.dataLawful) : ∀ e ∈ q', e.dataLawful := by
  induction h with
  | nil => exact hq
  | cons he _ ih =>
    simp only [List.forall_mem_cons] at hq ⊢
    exact ⟨he.data hq.1, ih hq.2⟩

theorem QueueKept.sound {q q' : List Entry} (h : QueueKept q q') (hq : QueueSound q) : QueueSound q' := by
  obtain ⟨hlength, htags, hdata⟩ := hq
  exact ⟨h.length_eq ▸ hlength, h.tags ▸ htags, h.data hdata⟩

/-- While a queue has room some tag is free, and `freeTag` is one (log 14). -/
theorem freeTag_fresh {q : List Entry} (h : q.length < 4) : ∀ e ∈ q, e.tag ≠ freeTag q := by
  have hex : ∃ t : Fin 4, ∀ e ∈ q, e.tag ≠ t := by
    by_contra hnone
    push Not at hnone
    have hall : (Finset.univ : Finset (Fin 4)) ⊆ (q.map (·.tag)).toFinset := fun t _ => by
      obtain ⟨e, he, rfl⟩ := hnone t
      simpa using ⟨e, he, rfl⟩
    have hcard := (Finset.card_le_card hall).trans (List.toFinset_card_le _)
    rw [Finset.card_univ, Fintype.card_fin, List.length_map] at hcard
    omega
  unfold freeTag
  cases hfind : (List.finRange 4).find? fun t => !q.any fun e => e.tag == t with
  | some t => simpa using List.find?_some hfind
  | none =>
    obtain ⟨t, ht⟩ := hex
    have := List.find?_eq_none.mp hfind t (List.mem_finRange t)
    simp only [Bool.not_eq_true', Bool.not_eq_false, List.any_eq_true, beq_iff_eq] at this
    obtain ⟨e, he, hte⟩ := this
    exact absurd hte (ht e he)

/-- A new entry carries no data (R1, R2, R16). -/
theorem newEntry_kept (tag : Fin 4) (a : Addr) (x : Transfer) : (newEntry tag a x).tag = tag ∧ (newEntry tag a x).dataLawful := by
  unfold newEntry
  split <;> refine ⟨rfl, fun o ho => ?_⟩ <;> rw [List.eq_of_mem_replicate ho] <;> rfl

theorem QueueSound.join {q : List Entry} (h : QueueSound q) (hroom : q.length < Config.queueDepth) (a : Addr) (x : Transfer) :
    QueueSound (q ++ [newEntry (freeTag q) a x]) := by
  obtain ⟨hlength, htags, hdata⟩ := h
  obtain ⟨hnew, hnewdata⟩ := newEntry_kept (freeTag q) a x
  refine ⟨by simpa using hroom, ?_, ?_⟩
  · rw [List.map_append, List.nodup_append]
    refine ⟨htags, List.nodup_singleton _, fun t ht u hu => ?_⟩
    obtain ⟨e, he, rfl⟩ := List.mem_map.mp ht
    rw [List.map_singleton, List.mem_singleton] at hu
    rw [hu, hnew]
    exact freeTag_fresh hroom e he
  · intro e he
    rcases List.mem_append.mp he with he | he
    · exact hdata e he
    · rw [List.mem_singleton.mp he]
      exact hnewdata

theorem QueueSound.tail {e : Entry} {q : List Entry} (h : QueueSound (e :: q)) : QueueSound q := by
  obtain ⟨hlength, htags, hdata⟩ := h
  exact ⟨le_trans (Nat.le_succ _) hlength, (List.nodup_cons.mp htags).2, fun x hx => hdata x (List.mem_cons_of_mem _ hx)⟩

/-- What holds of every queue but one changed queue, and of that one, holds of every queue. -/
theorem forall_queues_set {v : Vector (List Entry) 16} {n : Initiator} {q : List Entry} {p : List Entry → Prop}
    (hv : ∀ k : Initiator, p v[k]) (hq : p q) (k : Initiator) : p (v.set n q)[k] := by
  simp only [Fin.getElem_fin, Vector.getElem_set]
  split
  · exact hq
  · exact hv k

theorem reset_queuesSound : State.reset.queuesSound := fun n => by
  rw [show State.reset.queues[n] = [] from getElem_replicate_fin [] n]
  exact ⟨Nat.zero_le _, List.nodup_nil, nofun⟩

theorem kept_queuesSound : Kept State.queuesSound where
  queues _ _ hq h n := (hq n).sound (h n)
  join t n a x hroom h := forall_queues_set (p := QueueSound) h (QueueSound.join (h n) hroom a x)
  leave t n e rest hq h := forall_queues_set (p := QueueSound) h (QueueSound.tail (hq ▸ h n))

/-- Settles O53: soundness is a property of each queue alone, kept by every change of its entries, by a joining entry while
there is room, and by a leaving one. -/
theorem stepsKeepQueuesSound : Obligations.StepsKeepQueuesSound := fun _ _ hs hstep =>
  kept_queuesSound.acts.step (fun _ _ h => h) (fun _ _ => reset_queuesSound) hstep hs

/-! ### The port and the interlock's table (R68, R127) -/

theorem reset_outstandingBounded : State.reset.outstandingBounded := Nat.zero_le _

theorem kept_outstandingBounded : Kept State.outstandingBounded where
  port _ _ hp h := hp.elim (fun hle => le_trans hle h) id

theorem reset_reservationsApart : State.reset.reservationsApart := ⟨Nat.zero_le _, List.nodup_nil, .nil⟩

/-- The table's part of the invariant, on the numbers and records alone. -/
theorem State.reservationsApart_iff (s : State) : s.reservationsApart ↔
    (reservationKeys s.interlock.table).length ≤ Config.reservations
      ∧ ((reservationKeys s.interlock.table).map (·.1)).Nodup
      ∧ (reservationKeys s.interlock.table).Pairwise fun a b => ∀ r ∈ a.2, r ∉ b.2 := by
  simp [State.reservationsApart, reservationKeys, List.pairwise_map, Function.comp_def]

theorem kept_reservationsApart : Kept State.reservationsApart where
  reserve t o rs b hroom hfree h := by
    obtain ⟨_, hids, hrecords⟩ := h
    simp only [tableHasRoom, decide_eq_true_eq] at hroom
    refine ⟨?_, ?_, ?_⟩
    · rw [State.reserve_table, List.length_append]
      exact hroom
    · rw [State.reserve_table, List.map_append, List.nodup_append]
      refine ⟨hids, List.nodup_singleton _, fun i hi j hj => ?_⟩
      obtain ⟨r, hr, rfl⟩ := List.mem_map.mp hi
      rw [List.mem_singleton.mp hj]
      exact freeReservationId_fresh _ hroom r hr
    · rw [State.reserve_table]
      refine List.pairwise_append.mpr ⟨hrecords, List.pairwise_singleton _ _, fun x hx y hy r hrx hry => ?_⟩
      rw [List.mem_singleton.mp hy] at hry
      simp only [recordsFree, List.all_eq_true, Bool.not_eq_true', List.any_eq_false] at hfree
      exact hfree r hry x.records (List.mem_map_of_mem hx) (List.contains_iff_mem.mpr hrx)
  interlock t i hi h := by
    rw [State.reservationsApart_iff] at h ⊢
    obtain ⟨hlength, hids, hrecords⟩ := h
    exact ⟨hi.length_le.trans hlength, (hi.map _).nodup hids, hrecords.sublist hi⟩

/-- Settles O54: an issue takes a free place, and a reservation is made for records that stand in no other, under a fresh
number; every other change of the table drops reservations or keeps their numbers and records. -/
theorem stepsKeepPortAndTableBounded : Obligations.StepsKeepPortAndTableBounded :=
  ⟨fun _ _ hs hstep =>
      kept_outstandingBounded.acts.step (fun _ _ h => h) (fun _ _ => reset_outstandingBounded) hstep hs,
    fun _ _ hs hstep =>
      kept_reservationsApart.acts.step (fun _ _ h => h) (fun _ _ => reset_reservationsApart) hstep hs⟩

end Sys2Proof.Machine

/-! The invariants of the notice unit (R142, R154): every move of the unit keeps its classes lawful, and its in-flight list the
P - O entries from O on. -/

namespace Sys2Proof.Machine

/-! ### Classes -/

/-- A member of a set of kinds stays one when the set grows. -/
theorem mask_and_or {a b : BitVec 11} (h : a &&& b = a) (c : BitVec 11) : a &&& (b ||| c) = a := by
  refine BitVec.eq_of_getLsbD_eq fun i hi => ?_
  have hbit := congrArg (·.getLsbD i) h
  simp only [BitVec.getLsbD_and, BitVec.getLsbD_or] at hbit ⊢
  grind

theorem mask_and_or_self (a b : BitVec 11) : a &&& (b ||| a) = a := by
  rw [BitVec.or_comm]
  exact mask_and_or BitVec.and_self b

/-- Lawfulness reads the count, the record and the kinds (R142). -/
theorem NoticeClass.lawful.congr {c c' : NoticeClass} (h : c.lawful) (hp : c'.pending = c.pending) (hf : c'.first = c.first)
    (hk : c'.kinds = c.kinds) : c'.lawful := by
  simpa only [NoticeClass.lawful, hp, hf, hk] using h

theorem NoticeClass.emptied_lawful (c : NoticeClass) : c.emptied.lawful := ⟨Nat.zero_le _, by simp [NoticeClass.emptied], fun _ => rfl,
  fun _ he => absurd he (Option.not_mem_none _)⟩

/-- A class that takes an event stays lawful (R143). -/
theorem NoticeClass.take_lawful {c : NoticeClass} (h : c.lawful) (e : Event) : (c.take e).lawful := by
  obtain ⟨hle, hfirst, _, hmask⟩ := h
  refine ⟨by rw [c.take_pending e hle]; exact Nat.min_le_right _ _, ⟨fun _ => c.take_pos e, fun _ => ?_⟩,
    fun hzero => absurd hzero (Nat.pos_iff_ne_zero.mp (c.take_pos e)), fun f hf => ?_⟩
  · by_cases hp : c.pending = 0
    · simp [NoticeClass.take, hp]
    · simpa [NoticeClass.take, hp] using hfirst.mpr (Nat.pos_of_ne_zero hp)
  · by_cases hp : c.pending = 0
    · simp only [NoticeClass.take, hp, if_true, Option.mem_def, Option.some.injEq] at hf
      rw [← hf]
      exact mask_and_or_self _ _
    · simp only [NoticeClass.take, hp, if_false] at hf
      exact mask_and_or (hmask f hf) _

/-- What the current write carries: 1 to 255 events, among them one of its first event's kind (section 8.3). -/
def NoticeWrite.Lawful (w : NoticeWrite) : Prop :=
  1 ≤ w.count ∧ w.count ≤ Config.pendingCeiling ∧ w.first.kind.mask &&& w.kinds = w.first.kind.mask

/-- A class that takes the carried items back stays lawful (R156). -/
theorem NoticeClass.restore_lawful {c : NoticeClass} (h : c.lawful) {w : NoticeWrite} (hw : w.Lawful) : (c.restore w).lawful := by
  obtain ⟨_, hfirst, _, hmask⟩ := h
  obtain ⟨hpos, _, hwmask⟩ := hw
  have hcount : 0 < (c.restore w).pending := by
    simp only [NoticeClass.restore, Config.pendingCeiling]
    omega
  refine ⟨Nat.min_le_right _ _, ⟨fun _ => hcount, fun _ => ?_⟩, fun hzero => absurd hzero (Nat.pos_iff_ne_zero.mp hcount),
    fun f hf => ?_⟩
  · by_cases hp : c.pending = 0
    · simp [NoticeClass.restore, hp]
    · simpa [NoticeClass.restore, hp] using hfirst.mpr (Nat.pos_of_ne_zero hp)
  · by_cases hp : c.pending = 0
    · simp only [NoticeClass.restore, hp, if_true, Option.mem_def, Option.some.injEq] at hf
      rw [← hf, NoticeClass.restore, BitVec.or_comm]
      exact mask_and_or hwmask _
    · simp only [NoticeClass.restore, hp, if_false] at hf
      exact mask_and_or (hmask f hf) _

/-- The part of `State.classesLawful` in the notice unit's own words. -/
abbrev NoticeUnit.ClassesLawful (n : NoticeUnit) : Prop := (∀ c : ClassId, n.classes[c].lawful) ∧ ∀ w ∈ n.writer, w.Lawful

theorem State.classesLawful_iff (s : State) : s.classesLawful ↔ s.notice.ClassesLawful := Iff.rfl

/-- A start either does nothing or builds the entry of an eligible class while the unit is RUNNING, the writer IDLE, and the ring
has room (R150 to R152). -/
theorem NoticeUnit.start_cases (n : NoticeUnit) : n.start = n ∨ ∃ r c first, n.ring = some r ∧ n.state = .running
    ∧ n.writer = none ∧ n.hasRoom r = true ∧ n.classes[c].eligible = true ∧ n.classes[c].first = some first
    ∧ n.start = { n with
        classes := updatePool n.classes c NoticeClass.emptied
        writer := some (buildWrite r n.produced c n.classes[c] first) } := by
  unfold NoticeUnit.start
  split
  · rename_i r c hr hc
    split
    · rename_i hstart
      simp only [Bool.and_eq_true, decide_eq_true_eq, Option.isNone_iff_eq_none] at hstart
      obtain ⟨⟨hstate, hwriter⟩, hroom⟩ := hstart
      unfold NoticeUnit.build
      split
      · exact .inl rfl
      · rename_i first hfirst
        have heligible : n.classes[c].eligible = true := by simpa using List.find?_some hc
        exact .inr ⟨r, c, first, hr, hstate, hwriter, hroom, heligible, hfirst, rfl⟩
    · exact .inl rfl
  · exact .inl rfl

/-- An acknowledgement changes of the classes the in-flight flags alone (R159). -/
theorem NoticeUnit.observe_classes (n : NoticeUnit) (value : Word) (c : ClassId) :
    (n.observe value).classes[c].pending = n.classes[c].pending ∧ (n.observe value).classes[c].first = n.classes[c].first
      ∧ (n.observe value).classes[c].kinds = n.classes[c].kinds := by
  unfold NoticeUnit.observe
  dsimp only
  split
  · simp only [NoticeUnit.retire, Fin.getElem_fin, Vector.getElem_ofFn]
    split <;> exact ⟨rfl, rfl, rfl⟩
  · exact ⟨rfl, rfl, rfl⟩

@[simp] theorem NoticeUnit.observe_writer (n : NoticeUnit) (value : Word) : (n.observe value).writer = n.writer := by
  unfold NoticeUnit.observe
  dsimp only
  split <;> rfl

/-- One lawful class changed to a lawful one. -/
theorem updatePool_lawful {v : Vector NoticeClass 16} {c : ClassId} {f : NoticeClass → NoticeClass}
    (hv : ∀ k : ClassId, v[k].lawful) (hf : (f v[c]).lawful) (k : ClassId) : (updatePool v c f)[k].lawful := by
  rw [getElem_updatePool]
  split
  · exact hf
  · exact hv k

/-- Every move of the notice unit keeps its classes lawful (R142). -/
theorem NoticeUnit.Move.classesLawful {n n' : NoticeUnit} (move : n.Move n') (h : n.ClassesLawful) : n'.ClassesLawful := by
  obtain ⟨hclasses, hwriter⟩ := h
  cases move with
  | count c e => exact ⟨updatePool_lawful hclasses (NoticeClass.take_lawful (hclasses c) e), hwriter⟩
  | start =>
    obtain h | ⟨r, c, first, -, -, -, -, heligible, hfirst, h⟩ := n.start_cases
    · rw [h]
      exact ⟨hclasses, hwriter⟩
    · rw [h]
      refine ⟨updatePool_lawful hclasses (NoticeClass.emptied_lawful _), fun w hw => ?_⟩
      rw [Option.mem_def, Option.some.injEq] at hw
      obtain ⟨hle, -, -, hmask⟩ := hclasses c
      simp only [NoticeClass.eligible, Bool.and_eq_true, decide_eq_true_eq] at heligible
      rw [← hw]
      exact ⟨heligible.1.1, hle, hmask first hfirst⟩
  | observe value =>
    refine ⟨fun c => ?_, by rw [n.observe_writer]; exact hwriter⟩
    obtain ⟨hp, hf, hk⟩ := n.observe_classes value c
    exact (hclasses c).congr hp hf hk
  | issue w hw =>
    refine ⟨hclasses, fun v hv => ?_⟩
    rw [Option.mem_def, Option.some.injEq] at hv
    rw [← hv]
    exact hwriter w hw
  | response status =>
    unfold NoticeUnit.writeResponse
    split
    · exact ⟨hclasses, hwriter⟩
    · rename_i w hw
      split
      · exact ⟨updatePool_lawful hclasses ((hclasses w.cls).congr rfl rfl rfl),
          fun _ hw => absurd hw (Option.not_mem_none _)⟩
      · split
        · exact ⟨updatePool_lawful hclasses (NoticeClass.restore_lawful (hclasses w.cls) (hwriter w hw)),
            fun _ hw => absurd hw (Option.not_mem_none _)⟩
        · refine ⟨hclasses, fun v hv => ?_⟩
          rw [Option.mem_def, Option.some.injEq] at hv
          rw [← hv]
          exact hwriter w hw
  | masks mode masked =>
    refine ⟨fun c => ?_, hwriter⟩
    simp only [NoticeUnit.withMasks, Fin.getElem_fin, Vector.getElem_ofFn]
    exact (hclasses c).congr rfl rfl rfl
  | restart _ => exact ⟨hclasses, hwriter⟩
  | status => exact ⟨hclasses, hwriter⟩
  | empty =>
    refine ⟨fun c => ?_, hwriter⟩
    rw [Fin.getElem_fin, getElem_mapPool]
    exact NoticeClass.emptied_lawful _

theorem reset_class (c : ClassId) : State.reset.notice.classes[c] = NoticeClass.reset := by
  simp [State.reset, NoticeUnit.reset]

theorem reset_classesLawful : State.reset.classesLawful := by
  refine ⟨fun c => ?_, fun _ hw => absurd hw (Option.not_mem_none _)⟩
  rw [reset_class]
  exact NoticeClass.emptied_lawful NoticeClass.reset

theorem kept_classesLawful : Kept State.classesLawful where
  notice _ _ move h := move.classesLawful h
  ring _ _ _ _ _ _ h := h

/-- Settles O55: a move of the notice unit changes the classes by an event taken, a build, an acknowledgement, a failed write's
return or a clearing, each of which keeps a class lawful. -/
theorem stepsKeepClassesLawful : Obligations.StepsKeepClassesLawful := fun _ _ hs hstep =>
  kept_classesLawful.acts.step (fun _ _ h => h) (fun _ _ => reset_classesLawful) hstep hs

/-! ### The ring -/

/-- The producer indices of `count` entries from `first` on (R154). -/
def producersFrom (first : BitVec 32) (count : Nat) : List (BitVec 32) :=
  (List.range count).map fun i => first + BitVec.ofNat 32 i

/-- One entry more at the end. -/
theorem producersFrom_succ (first : BitVec 32) (count : Nat) :
    producersFrom first (count + 1) = producersFrom first count ++ [first + BitVec.ofNat 32 count] := by
  rw [producersFrom, List.range_succ, List.map_append]
  rfl

/-- The oldest entries dropped, the others start at the first that is left. -/
theorem producersFrom_drop (first : BitVec 32) (count d : Nat) :
    (producersFrom first count).drop d = producersFrom (first + BitVec.ofNat 32 d) (count - d) := by
  refine List.ext_getElem (by simp [producersFrom]) fun i h₁ h₂ => ?_
  simp [producersFrom, BitVec.ofNat_add, BitVec.add_assoc]

/-- A change of the unit that leaves list, indices, ring and flags, and gives the writer no other write (R154). -/
theorem NoticeUnit.ringLawful.update {n : NoticeUnit} (h : n.ringLawful) {state : NoticeState} {fault last : ClassId}
    {classes : Vector NoticeClass 16} {mode : PriorityMode} {writer : Option NoticeWrite} {ackRange : Bool}
    (hflags : ∀ c : ClassId, classes[c].inFlight = n.classes[c].inFlight)
    (hstate : n.state = .unconfigured → n.writer = none → state = .unconfigured)
    (hwriter : ∀ w' ∈ writer, ∃ w ∈ n.writer, w'.producer = w.producer ∧ w'.cls = w.cls) :
    ({ n with state := state, faultClass := fault, classes := classes, mode := mode, lastDelivered := last, writer := writer,
              ackRange := ackRange } : NoticeUnit).ringLawful := by
  obtain ⟨hindices, hnodup, hlisted, hnone, hsome⟩ := h
  unfold NoticeUnit.ringLawful
  dsimp only
  refine ⟨hindices, hnodup, fun c => by rw [hflags]; exact hlisted c, fun hr => ?_, fun r hr => ?_⟩
  · obtain ⟨hs, hw, hpo⟩ := hnone hr
    refine ⟨hstate hs hw, Option.eq_none_iff_forall_not_mem.mpr fun w' hw' => ?_, hpo⟩
    obtain ⟨w, hmem, -⟩ := hwriter w' hw'
    rw [hw] at hmem
    cases hmem
  · obtain ⟨hcap, hle, hwrite⟩ := hsome r hr
    refine ⟨hcap, hle, fun w' hw' => ?_⟩
    obtain ⟨w, hmem, hp, hc⟩ := hwriter w' hw'
    rw [hp, hflags, hc]
    exact hwrite w hmem

/-- P rises by one while P - O is at most 16: the list takes the entry of the old P (R154). -/
theorem toNat_succ_sub {p o : BitVec 32} (h : (p - o).toNat < 16) : (p + 1 - o).toNat = (p - o).toNat + 1 := by
  rw [show p + 1 - o = p - o + 1 by ring, BitVec.toNat_add]
  exact Nat.mod_eq_of_lt (by rw [show (1 : BitVec 32).toNat = 1 from rfl]; omega)

/-- A delivered write joins the list as its youngest entry (R154). -/
theorem NoticeUnit.ringLawful.writeOk {n : NoticeUnit} {w : NoticeWrite} (h : n.ringLawful) (hw : n.writer = some w) :
    (n.writeOk w).ringLawful := by
  obtain ⟨hindices, hnodup, hlisted, hnone, hsome⟩ := h
  obtain ⟨r, hr⟩ : ∃ r, n.ring = some r := by
    refine Option.ne_none_iff_exists'.mp fun hr => ?_
    have := (hnone hr).2.1
    rw [hw] at this
    cases this
  obtain ⟨hcap, -, hwrite⟩ := hsome r hr
  obtain ⟨hproducer, hflag, hroom⟩ := hwrite w hw
  have hsucc : (n.produced + 1 - n.consumed).toNat = (n.produced - n.consumed).toNat + 1 := toNat_succ_sub (by omega)
  have hnew : w.cls ∉ n.inFlight.map (·.2) := fun hmem => by
    rw [(hlisted w.cls).mpr hmem] at hflag
    cases hflag
  unfold NoticeUnit.writeOk NoticeUnit.ringLawful
  dsimp only
  refine ⟨?_, ?_, fun c => ?_, fun hr' => ?_, fun r' hr' => ?_⟩
  · have hlast : n.consumed + BitVec.ofNat 32 (n.produced - n.consumed).toNat = w.producer := by
      rw [BitVec.ofNat_toNat, BitVec.setWidth_eq, hproducer]
      ring
    rw [hsucc, List.map_append, hindices, List.map_singleton, ← hlast]
    exact (producersFrom_succ _ _).symm
  · rw [List.map_append, List.nodup_append]
    exact ⟨hnodup, List.nodup_singleton _, fun a ha b hb => by
      rw [List.map_singleton, List.mem_singleton] at hb
      rw [hb]
      exact fun e => hnew (by rw [show w.cls = a from e.symm]; exact ha)⟩
  · rw [getElem_updatePool, List.map_append, List.mem_append, List.map_singleton, List.mem_singleton]
    split
    · rename_i hc
      simp [hc]
    · rename_i hc
      rw [hlisted c]
      simp [hc]
  · rw [hr] at hr'
    cases hr'
  · rw [Option.mem_def, hr, Option.some.injEq] at hr'
    rw [← hr']
    exact ⟨hcap, by omega, fun _ hw => absurd hw (Option.not_mem_none _)⟩

/-- The classes of the oldest entries and of the others are different ones, so a retired class is in flight no longer and the
others still are (R159). -/
theorem mem_drop_iff {l : List (BitVec 32 × ClassId)} (hnodup : (l.map (·.2)).Nodup) (d : Nat) (c : ClassId) :
    c ∈ (l.drop d).map (·.2) ↔ c ∈ l.map (·.2) ∧ ¬ ((l.take d).any fun x => x.2 == c) = true := by
  have hany : ((l.take d).any fun x => x.2 == c) = true ↔ c ∈ (l.take d).map (·.2) := by
    simp only [List.any_eq_true, beq_iff_eq, List.mem_map]
  rw [hany]
  have hsplit : l.map (·.2) = (l.take d).map (·.2) ++ (l.drop d).map (·.2) := by rw [← List.map_append, List.take_append_drop]
  rw [hsplit] at hnodup ⊢
  obtain ⟨-, -, hdisjoint⟩ := List.nodup_append.mp hnodup
  rw [List.mem_append]
  exact ⟨fun h => ⟨.inr h, fun h' => hdisjoint c h' c h rfl⟩, fun h => h.1.resolve_left h.2⟩

/-- The in-flight flag of a retired class is clear, and of any other as it was (R159). -/
theorem NoticeUnit.retire_flag (n : NoticeUnit) (count : Nat) (k : ClassId) : (n.retire count).classes[k].inFlight
    = if ((n.inFlight.take count).any fun x => x.2 == k) = true then false else n.classes[k].inFlight := by
  simp only [NoticeUnit.retire, Fin.getElem_fin, Vector.getElem_ofFn]
  split <;> rfl

/-- An acknowledgement of up to P - O entries retires the oldest (R159). -/
theorem NoticeUnit.ringLawful.observe {n : NoticeUnit} (h : n.ringLawful) (value : Word) : (n.observe value).ringLawful := by
  unfold NoticeUnit.observe
  dsimp only
  generalize value.setWidth 32 = c
  split
  · rename_i hle
    obtain ⟨hindices, hnodup, hlisted, hnone, hsome⟩ := h
    have hconsumed : n.consumed + BitVec.ofNat 32 (c - n.consumed).toNat = c := by
      rw [BitVec.ofNat_toNat, BitVec.setWidth_eq]
      ring
    have hleft : (n.produced - c).toNat = (n.produced - n.consumed).toNat - (c - n.consumed).toNat := by
      rw [show n.produced - c = n.produced - n.consumed - (c - n.consumed) by ring]
      exact BitVec.toNat_sub_of_le hle
    have hflag (k : ClassId) : (n.retire (c - n.consumed).toNat).classes[k].inFlight = true
        ↔ n.classes[k].inFlight = true ∧ ¬ ((n.inFlight.take (c - n.consumed).toNat).any fun x => x.2 == k) = true := by
      rw [NoticeUnit.retire_flag]
      split
      · rename_i hretired
        simp only [hretired, not_true_eq_false, and_false, Bool.false_eq_true]
      · rename_i hretired
        exact (and_iff_left hretired).symm
    refine ⟨?_, ?_, fun k => ?_, fun hr => ?_, fun r hr => ?_⟩
    · show (n.inFlight.drop _).map (·.1) = producersFrom c (n.produced - c).toNat
      rw [List.map_drop, hindices, hleft]
      exact (producersFrom_drop _ _ _).trans (by rw [hconsumed])
    · exact (hnodup.sublist ((List.drop_sublist _ _).map _))
    · show (n.retire (c - n.consumed).toNat).classes[k].inFlight = true ↔ k ∈ (n.inFlight.drop (c - n.consumed).toNat).map (·.2)
      rw [hflag, mem_drop_iff hnodup, hlisted]
    · obtain ⟨hs, hw, hpo⟩ := hnone hr
      refine ⟨hs, hw, ?_⟩
      have hzero : c - n.consumed = 0 := by
        rw [hpo, sub_self] at hle
        exact BitVec.eq_of_toNat_eq (Nat.le_zero.mp hle)
      show n.produced = c
      rw [hpo]
      exact (sub_eq_zero.mp hzero).symm
    · obtain ⟨hcap, hroom, hwrite⟩ := hsome r hr
      refine ⟨hcap, ?_, fun w hw => ?_⟩
      · show (n.produced - c).toNat ≤ r.capacity
        omega
      · obtain ⟨hproducer, hclear, hlt⟩ := hwrite w hw
        refine ⟨hproducer, ?_, ?_⟩
        · rw [Bool.eq_false_iff]
          intro hset
          rw [((hflag w.cls).mp hset).1] at hclear
          cases hclear
        · show (n.produced - c).toNat < r.capacity
          omega
  · exact h

/-- Every move of the notice unit keeps its list (R154). -/
theorem NoticeUnit.Move.ringLawful {n n' : NoticeUnit} (move : n.Move n') (h : n.ringLawful) : n'.ringLawful := by
  have hkeep : ∀ w ∈ n.writer, ∃ v ∈ n.writer, w.producer = v.producer ∧ w.cls = v.cls := fun w hw => ⟨w, hw, rfl, rfl⟩
  have hwritten {w w' : NoticeWrite} (hw : n.writer = some w) (hp : w'.producer = w.producer) (hc : w'.cls = w.cls) :
      ∀ v' ∈ some w', ∃ v ∈ n.writer, v'.producer = v.producer ∧ v'.cls = v.cls := fun v' hv' => by
    rw [Option.mem_def, Option.some.injEq] at hv'
    exact ⟨w, hw, hv' ▸ hp, hv' ▸ hc⟩
  cases move with
  | count c e =>
    refine h.update (fun k => ?_) (fun hs _ => hs) hkeep
    rw [getElem_updatePool]
    split
    · rename_i hk
      rw [hk, NoticeClass.take_inFlight]
    · rfl
  | start =>
    obtain hn | ⟨r, c, first, hr, -, -, hroom, heligible, -, hn⟩ := n.start_cases
    · rw [hn]
      exact h
    · rw [hn]
      obtain ⟨hindices, hnodup, hlisted, hnone, hsome⟩ := h
      have hflags (k : ClassId) : (updatePool n.classes c NoticeClass.emptied)[k].inFlight = n.classes[k].inFlight := by
        rw [getElem_updatePool]
        split
        · rename_i hk
          rw [hk]
          rfl
        · rfl
      simp only [NoticeClass.eligible, Bool.and_eq_true, Bool.not_eq_true'] at heligible
      simp only [NoticeUnit.hasRoom, decide_eq_true_eq] at hroom
      refine ⟨hindices, hnodup, fun k => (hflags k).symm ▸ hlisted k, fun hr' => ?_, fun r' hr' => ?_⟩
      · rw [show n.ring = none from hr'] at hr
        cases hr
      · obtain ⟨hcap, hle, -⟩ := hsome r' hr'
        have hring : r' = r := Option.some.inj ((show n.ring = some r' from hr').symm.trans hr)
        refine ⟨hcap, hle, fun w hw => ?_⟩
        rw [Option.mem_def, Option.some.injEq] at hw
        rw [← hw, hring]
        exact ⟨rfl, (hflags c).trans heligible.2, hroom⟩
  | observe value => exact h.observe value
  | issue w hw => exact h.update (fun _ => rfl) (fun hs _ => hs) (hwritten hw rfl rfl)
  | response status =>
    unfold NoticeUnit.writeResponse
    split
    · exact h
    · rename_i w hw
      split
      · exact h.writeOk hw
      · split
        · refine h.update (fun k => ?_) (fun _ hnone => ?_)
            (fun _ hw => absurd hw (Option.not_mem_none _))
          · rw [getElem_updatePool]
            split
            · rename_i hk
              rw [hk]
              rfl
            · rfl
          · rw [hw] at hnone
            cases hnone
        · exact h.update (fun _ => rfl) (fun hs _ => hs) (hwritten hw rfl rfl)
  | masks mode masked =>
    unfold NoticeUnit.withMasks
    refine h.update (fun k => ?_) (fun hs _ => hs) hkeep
    simp
  | restart hhalted =>
    refine h.update (fun _ => rfl) (fun hs _ => ?_) hkeep
    rw [hs] at hhalted
    cases hhalted
  | status => exact h.update (fun _ => rfl) (fun hs _ => hs) hkeep
  | empty =>
    refine h.update (fun k => ?_) (fun hs _ => hs) hkeep
    rw [Fin.getElem_fin, getElem_mapPool]
    rfl

/-- A ring is set while no entry is unacknowledged and no write in progress, and starts with P and O 0 (R146, R147). -/
theorem NoticeUnit.ringLawful.withRing {n : NoticeUnit} (h : n.ringLawful) {r : Ring} (hcap : r.capacity ≤ 16) (fault : ClassId)
    (hlist : n.inFlight = []) (hwriter : n.writer = none) : (n.withRing r fault).ringLawful := by
  obtain ⟨-, -, hlisted, -, -⟩ := h
  refine ⟨?_, ?_, hlisted, nofun, fun r' hr' => ?_⟩
  · show n.inFlight.map (·.1) = _
    rw [hlist, show (n.withRing r fault).produced = 0 from rfl, show (n.withRing r fault).consumed = 0 from rfl, sub_self]
    rfl
  · show (n.inFlight.map (·.2)).Nodup
    rw [hlist]
    exact List.nodup_nil
  · rw [Option.mem_def, show (n.withRing r fault).ring = some r from rfl, Option.some.injEq] at hr'
    rw [← hr']
    refine ⟨hcap, ?_, fun w hw => ?_⟩
    · rw [show (n.withRing r fault).produced = 0 from rfl, show (n.withRing r fault).consumed = 0 from rfl, sub_self]
      exact Nat.zero_le _
    rw [show (n.withRing r fault).writer = none from hwriter] at hw
    cases hw

/-- A ring that SET_RING allows has at most 16 entries (R146). -/
theorem State.ringAllowed_capacity {s : State} {r : Ring} (h : s.ringAllowed r = true) : r.capacity ≤ 16 := by
  simp only [State.ringAllowed, Bool.and_eq_true, List.contains_iff_mem, List.mem_cons, List.not_mem_nil, or_false] at h
  omega

theorem reset_ringLawful : State.reset.notice.ringLawful := by
  refine ⟨rfl, List.nodup_nil, fun c => ?_, fun _ => ⟨rfl, rfl, rfl⟩,
    fun _ hr => absurd hr (Option.not_mem_none _)⟩
  rw [reset_class]
  exact ⟨nofun, nofun⟩

theorem kept_ringLawful : Kept fun s => s.notice.ringLawful where
  notice _ _ move h := move.ringLawful h
  ring _ _ fault hallowed hlist hwriter h := h.withRing (State.ringAllowed_capacity hallowed) fault hlist hwriter

/-- Settles O56: a delivered write joins the list at P, an acknowledgement drops its oldest entries, a build takes a class that is
not in flight, and every other move leaves list, indices, ring and flags. -/
theorem stepsKeepTheRingLawful : Obligations.StepsKeepTheRingLawful := fun _ _ hs hstep =>
  kept_ringLawful.acts.step (fun _ _ h => h) (fun _ _ => reset_ringLawful) hstep hs

end Sys2Proof.Machine

/-! The invariants of slots and windows: one staging slot for a record (R47), a reader's snapshot slots (R88), the cursors
(R35, R36), the windows' ranges (R26), and the windows of slots in use (R44, R87). -/

namespace Sys2Proof.Machine

/-! ### Staging slots -/

/-- No staging slot is in use for the record: none has it as its target (R46). -/
theorem State.noStaging_target {s : State} {r : RecordId} (h : s.noStaging r) (i : Fin 16) : s.staging[i].target ≠ some r := by
  have hi := h i
  rw [← StagingSlot.target_eq, beq_eq_false_iff_ne] at hi
  exact hi

/-- The target of a slot after one slot's change. -/
theorem staging_set_target (v : Vector StagingSlot 16) (slot i : Fin 16) (x : StagingSlot) :
    (v.set slot x)[i].target = if i = slot then x.target else v[i].target := by
  simp only [Fin.getElem_fin, Vector.getElem_set]
  by_cases h : i = slot
  · simp [h]
  · rw [if_neg (fun e => h (Fin.ext e.symm)), if_neg h]

theorem reset_stagingUnique : State.reset.stagingUnique := fun i _ hi =>
  absurd (by rw [show State.reset.staging[i] = .free from getElem_replicate_fin _ i]; rfl) hi

theorem kept_stagingUnique : Kept State.stagingUnique where
  staging t v hv h i j hi hij := by
    have hold (k : Fin 16) (hk : v[k].target ≠ none) : v[k].target = t.staging[k].target := (hv k).1.resolve_left hk
    rw [State.setStaging_staging] at hi hij
    have hj : v[j].target ≠ none := hij ▸ hi
    rw [hold i hi] at hi
    exact h i j hi (by rw [← hold j hj, ← hij, hold i (by rwa [hold i (by rwa [← hij] at hj)])])
  openStaging t slot x r hx hnone _ h i j hi hij := by
    simp only [State.setStaging_staging, staging_set_target] at hi hij
    by_cases hsi : i = slot <;> by_cases hsj : j = slot
    · rw [hsi, hsj]
    · rw [if_pos hsi, if_neg hsj, hx] at hij
      exact absurd hij.symm (State.noStaging_target hnone j)
    · rw [if_neg hsi, if_pos hsj, hx] at hij
      exact absurd hij (State.noStaging_target hnone i)
    · rw [if_neg hsi] at hi hij
      rw [if_neg hsj] at hij
      exact h i j hi hij

/-! ### Snapshot slots -/

/-- A slot is the reader's for a record with the property exactly when its reader and record say so. -/
theorem SnapshotSlot.heldFor_use {x : SnapshotSlot} {n : Initiator} {p : RecordId → Bool} :
    x.heldFor n p = true ↔ ∃ r, x.use = some (n, r) ∧ p r = true := by
  rw [SnapshotSlot.heldFor_iff]
  simp only [SnapshotSlot.use, Option.map_eq_some_iff, Prod.mk.injEq]
  constructor
  · rintro ⟨i, hi, rfl, hp⟩
    exact ⟨i.target, ⟨i, hi, rfl, rfl⟩, hp⟩
  · rintro ⟨r, ⟨i, hi, rfl, rfl⟩, hp⟩
    exact ⟨i, hi, rfl, hp⟩

/-- The limits read of each slot its reader and record alone (R88). -/
theorem State.snapshotLimits_iff (s : State) : s.snapshotLimits ↔
    (∀ n, s.slotCount n ≤ Config.slotsPerReader)
      ∧ ∀ (i j : Fin 24) (n : Initiator) (a b : RecordId), s.snapshots[i].use = some (n, a) → s.snapshots[j].use = some (n, b) →
        a.window = b.window → i = j := by
  refine and_congr_right fun _ => ⟨fun h i j n a b ha hb hw => ?_, fun h i j x hx y hy hn hw => ?_⟩
  · simp only [SnapshotSlot.use, Option.map_eq_some_iff, Prod.mk.injEq] at ha hb
    obtain ⟨x, hx, rfl, rfl⟩ := ha
    obtain ⟨y, hy, hn, rfl⟩ := hb
    exact h i j x hx y hy hn.symm hw
  · refine h i j x.reader x.target y.target ?_ ?_ hw
    · rw [SnapshotSlot.use, Option.mem_def.mp hx]
      rfl
    · rw [SnapshotSlot.use, Option.mem_def.mp hy, hn]
      rfl

/-- The reader and record of a slot after one slot's change. -/
theorem snapshots_set_use (v : Vector SnapshotSlot 24) (slot i : Fin 24) (x : SnapshotSlot) :
    (v.set slot x)[i].use = if i = slot then x.use else v[i].use := by
  simp only [Fin.getElem_fin, Vector.getElem_set]
  by_cases h : i = slot
  · simp [h]
  · rw [if_neg (fun e => h (Fin.ext e.symm)), if_neg h]

/-- A count over distinct items that may take in one item more is at most one higher. -/
theorem countP_le_succ {α : Type} {l : List α} {p q : α → Bool} {a : α} (hl : l.Nodup)
    (h : ∀ b ∈ l, p b = true → b = a ∨ q b = true) : l.countP p ≤ l.countP q + 1 := by
  induction l with
  | nil => exact Nat.zero_le _
  | cons b l ih =>
    obtain ⟨hb, hl⟩ := List.nodup_cons.mp hl
    have htail := ih hl fun c hc => h c (List.mem_cons_of_mem _ hc)
    by_cases hp : p b = true
    · rcases h b List.mem_cons_self hp with rfl | hq
      · have hsame : l.countP p ≤ l.countP q := List.countP_mono_left fun c hc hpc =>
          (h c (List.mem_cons_of_mem _ hc) hpc).resolve_left fun e => hb (e ▸ hc)
        rw [List.countP_cons_of_pos hp]
        exact Nat.succ_le_succ (hsame.trans (List.sublist_cons_self _ _).countP_le)
      · rw [List.countP_cons_of_pos hp, List.countP_cons_of_pos hq]
        omega
    · rw [List.countP_cons_of_neg hp]
      exact htail.trans (Nat.succ_le_succ (List.sublist_cons_self _ _).countP_le)

theorem reset_snapshotLimits : State.reset.snapshotLimits := by
  have hfree (i : Fin 24) : State.reset.snapshots[i] = .free := getElem_replicate_fin _ i
  refine ⟨fun n => ?_, fun i j x hx => ?_⟩
  · rw [State.slotCount, List.countP_eq_zero.mpr fun i _ => by rw [hfree]; exact Bool.false_ne_true]
    exact Nat.zero_le _
  · rw [hfree] at hx
    cases hx

theorem kept_snapshotLimits : Kept State.snapshotLimits where
  snapshots t v hv h := by
    have hkept {i : Fin 24} {n : Initiator} {r : RecordId} (hi : v[i].use = some (n, r)) : t.snapshots[i].use = some (n, r) := by
      rcases hv i with h | h
      · rw [h] at hi
        cases hi
      · rw [← h, hi]
    rw [State.snapshotLimits_iff] at h ⊢
    refine ⟨fun n => (List.countP_mono_left fun i _ hi => ?_).trans (h.1 n), fun i j n a b ha hb => ?_⟩
    · obtain ⟨r, hr, hp⟩ := SnapshotSlot.heldFor_use.mp hi
      exact SnapshotSlot.heldFor_use.mpr ⟨r, hkept hr, hp⟩
    · exact h.2 i j n a b (hkept ha) (hkept hb)
  openSnapshot u t slot x n r hx hu hroom _ h := by
    obtain ⟨hcount, hnone⟩ := hroom hu
    have hother (i : Fin 24) (a : RecordId) (hi : t.snapshots[i].use = some (n, a)) : a.window ≠ r.window := fun hw => by
      have := SnapshotSlot.heldFor_use (p := fun y => y.window == r.window).mpr ⟨a, hi, by simpa using hw⟩
      rw [hnone i] at this
      cases this
    rw [State.snapshotLimits_iff] at h ⊢
    refine ⟨fun k => ?_, fun i j k a b ha hb hab => ?_⟩
    · have hheld (i : Fin 24) (hi : (t.snapshots.set slot x)[i].heldFor k (fun _ => true) = true) :
          (i = slot ∧ k = n) ∨ t.snapshots[i].heldFor k (fun _ => true) = true := by
        obtain ⟨a, ha, -⟩ := SnapshotSlot.heldFor_use.mp hi
        rw [snapshots_set_use] at ha
        split at ha
        · rw [hx, Option.some.injEq, Prod.mk.injEq] at ha
          exact .inl ⟨by assumption, ha.1.symm⟩
        · exact .inr (SnapshotSlot.heldFor_use.mpr ⟨a, ha, rfl⟩)
      by_cases hk : k = n
      · rw [hk] at hheld ⊢
        exact (countP_le_succ (List.nodup_finRange 24) fun i _ hi => (hheld i hi).imp_left (·.1)).trans hcount
      · exact (List.countP_mono_left fun i _ hi => (hheld i hi).resolve_left fun h => hk h.2).trans (h.1 k)
    · simp only [State.setSnapshots_snapshots, snapshots_set_use] at ha hb
      by_cases hi : i = slot <;> by_cases hj : j = slot
      · rw [hi, hj]
      · rw [if_pos hi, hx, Option.some.injEq, Prod.mk.injEq] at ha
        rw [if_neg hj, ← ha.1] at hb
        exact absurd (hab.symm.trans (congrArg _ ha.2.symm)) (hother j b hb)
      · rw [if_pos hj, hx, Option.some.injEq, Prod.mk.injEq] at hb
        rw [if_neg hi, ← hb.1] at ha
        exact absurd (hab.trans (congrArg _ hb.2.symm)) (hother i a ha)
      · rw [if_neg hi] at ha
        rw [if_neg hj] at hb
        exact h.2 i j k a b ha hb hab

/-- Settles O57: a staging slot is opened for a record that has none, and a latch takes a snapshot slot after its releases, when
its reader has fewer than four and none in the window; every other change of a slot keeps what it is for, or frees it. -/
theorem stepsKeepSlotsUnique : Obligations.StepsKeepSlotsUnique :=
  ⟨fun _ _ hs hstep => kept_stagingUnique.acts.step (fun _ _ h => h) (fun _ _ => reset_stagingUnique) hstep hs,
    fun _ _ hs hstep => kept_snapshotLimits.acts.step (fun _ _ h => h) (fun _ _ => reset_snapshotLimits) hstep hs⟩

/-! ### Windows -/

/-- A window entry after one entry's change. -/
theorem windows_set (v : Vector Window 32) (w k : WindowId) (x : Window) : (v.set w x)[k] = if k = w then x else v[k] := by
  simp only [Fin.getElem_fin, Vector.getElem_set]
  by_cases h : k = w
  · simp [h]
  · rw [if_neg (fun e => h (Fin.ext e.symm)), if_neg h]

theorem reset_window (w : WindowId) : State.reset.windows[w] = Window.reset := getElem_replicate_fin _ w

theorem reset_cursorsLawful : State.reset.cursorsLawful := fun w => by
  rw [reset_window]
  decide

theorem kept_cursorsLawful : Kept State.cursorsLawful where
  window t w x hx h k := by
    rw [State.setWindows_windows, windows_set]
    split
    · exact hx.cursor (h w)
    · exact h k
  windowsOff _ _ hv _ _ h w := (hv w).2 (h w)

/-- Overlap and the meeting of a ring read a window's range alone. -/
theorem Window.overlaps_congr {x x' y : Window} (h : x'.base = x.base ∧ x'.recordWords = x.recordWords ∧ x'.recordCount = x.recordCount) :
    x'.overlaps y = x.overlaps y ∧ y.overlaps x' = y.overlaps x ∧ ∀ r, x'.meetsRing r = x.meetsRing r := by
  obtain ⟨hbase, hwords, hcount⟩ := h
  have htop : x'.endAddress = x.endAddress := by
    rw [Window.endAddress, Window.size, Window.recordSize, hbase, hwords, hcount]
    rfl
  refine ⟨?_, ?_, fun r => ?_⟩
  · rw [Window.overlaps, hbase, htop, Window.overlaps]
  · rw [Window.overlaps, hbase, htop, Window.overlaps]
  · rw [Window.meetsRing, Window.contains, hbase, htop, Window.meetsRing, Window.contains]

theorem Window.overlaps_comm (x y : Window) : x.overlaps y = y.overlaps x := by
  rw [Bool.eq_iff_iff]
  simp only [Window.overlaps, rangesOverlap, Bool.and_eq_true, decide_eq_true_eq]
  omega

/-- A window that may be enabled overlaps no window that is not OFF, and does not meet the ring (R26). -/
theorem State.enableAllowed_apart {s : State} {w : WindowId} (h : s.enableAllowed w = true) :
    (∀ v, v ≠ w → s.windows[v].state ≠ .off → s.windows[v].overlaps s.windows[w] = false)
      ∧ ∀ r ∈ s.notice.ring, s.windows[w].meetsRing r = false := by
  simp only [State.enableAllowed, Bool.and_eq_true, List.all_eq_true, Bool.or_eq_true, beq_iff_eq, Bool.not_eq_true',
    Option.any_eq_false] at h
  obtain ⟨⟨_, hwindows⟩, hring⟩ := h
  refine ⟨fun v hv hs => ?_, fun r hr => by simpa using hring r hr⟩
  rcases hwindows v (List.mem_finRange v) with (h | h) | h
  · exact absurd h hv
  · exact absurd h hs
  · exact h

theorem reset_windowsApart : State.reset.windowsApart := by
  have hoff (w : WindowId) : State.reset.windows[w].state = .off := by rw [reset_window]; rfl
  exact ⟨fun v _ _ hv => absurd (hoff v) hv, fun w hw => absurd (hoff w) hw⟩

theorem kept_windowsApart : Kept State.windowsApart where
  notice t n move h := by
    have hring : n.ring = t.notice.ring := by
      cases move with
      | start =>
        obtain hn | ⟨_, _, _, _, _, _, _, _, _, hn⟩ := t.notice.start_cases <;> rw [hn]
      | observe value => unfold NoticeUnit.observe; dsimp only; split <;> rfl
      | response status =>
        unfold NoticeUnit.writeResponse
        split
        · rfl
        · split
          · rfl
          · split <;> rfl
      | count _ _ | issue _ _ | masks _ _ | restart _ | status | empty => rfl
    exact ⟨h.1, by rw [State.setNotice_notice, hring]; exact h.2⟩
  ring t r c hallowed _ _ h := by
    refine ⟨h.1, fun w hw r' hr' => ?_⟩
    rw [Option.mem_def, show (t.setNotice (t.notice.withRing r c)).notice.ring = some r from rfl, Option.some.injEq] at hr'
    rw [← hr']
    simp only [State.ringAllowed, Bool.and_eq_true, Bool.not_eq_true', List.any_eq_false, not_and, Bool.not_eq_true, bne_iff_ne] at hallowed
    exact hallowed.2 _ (Vector.mem_toList_iff.mpr (Vector.getElem_mem w.isLt)) hw
  window t w x hx h := by
    have hold (hw : x.state ≠ .off) : (∀ v, v ≠ w → t.windows[v].state ≠ .off → t.windows[v].overlaps x = false)
        ∧ ∀ r ∈ t.notice.ring, x.meetsRing r = false := by
      obtain ⟨hstate, hrange⟩ := hx.range hw
      obtain ⟨-, hright, hmeets⟩ := Window.overlaps_congr (y := x) hrange
      have hapart : (∀ v, v ≠ w → t.windows[v].state ≠ .off → t.windows[v].overlaps t.windows[w] = false)
          ∧ ∀ r ∈ t.notice.ring, t.windows[w].meetsRing r = false := by
        rcases hstate with hstate | hallowed
        · exact ⟨fun v hv hs => h.1 v w hv hs hstate, h.2 w hstate⟩
        · exact State.enableAllowed_apart hallowed
      refine ⟨fun v hv hs => ?_, fun r hr => (hmeets r).trans (hapart.2 r hr)⟩
      exact (Window.overlaps_congr (y := t.windows[v]) hrange).2.1.trans (hapart.1 v hv hs)
    refine ⟨fun v k hvk hv hk => ?_, fun k hk r hr => ?_⟩
    · simp only [State.setWindows_windows, windows_set] at hv hk ⊢
      by_cases hvw : v = w
      · have hkw : k ≠ w := fun e => hvk (hvw.trans e.symm)
        rw [if_pos hvw] at hv ⊢
        rw [if_neg hkw] at hk ⊢
        exact (Window.overlaps_comm _ _).trans ((hold hv).1 k hkw hk)
      · rw [if_neg hvw] at hv ⊢
        by_cases hkw : k = w
        · rw [if_pos hkw] at hk ⊢
          exact (hold hk).1 v hvw hv
        · rw [if_neg hkw] at hk ⊢
          exact h.1 v k hvk hv hk
    · simp only [State.setWindows_windows, windows_set] at hk ⊢
      split at hk
      · rename_i hkw
        rw [if_pos hkw]
        exact (hold hk).2 r hr
      · rename_i hkw
        rw [if_neg hkw]
        exact h.2 k hk r hr
  windowsOff _ _ hv _ _ _ := ⟨fun v _ _ hs => absurd (hv v).1 hs, fun w hs => absurd (hv w).1 hs⟩

/-- Settles O58: each command's change of a window keeps a lawful cursor, and a window leaves OFF, and a ring is set, by the
checks of R26 and R146 alone. -/
theorem stepsKeepWindowTableLawful : Obligations.StepsKeepWindowTableLawful :=
  ⟨fun _ _ hs hstep => kept_cursorsLawful.acts.step (fun _ _ h => h) (fun _ _ => reset_cursorsLawful) hstep hs,
    fun _ _ hs hstep => kept_windowsApart.acts.step (fun _ _ h => h) (fun _ _ => reset_windowsApart) hstep hs⟩

/-! ### The windows of slots in use -/

/-- A window that owns no slot has none that gathers, and none that holds or loads a snapshot (section 2.3). -/
theorem State.ownsSlot_eq_false {s : State} {w : WindowId} : s.ownsSlot w = false ↔
    (∀ i : Fin 16, ∀ r ∈ s.staging[i].target, r.window ≠ w) ∧ ∀ i : Fin 24, ∀ x ∈ s.snapshots[i].info, x.target.window ≠ w := by
  have hpool {α : Type} {n : Nat} (v : Vector α n) (p : α → Bool) : v.toList.any p = false ↔ ∀ i : Fin n, p v[i] = false := by
    rw [List.any_eq_false]
    simp only [Vector.mem_toList_iff, Vector.mem_iff_getElem, Bool.not_eq_true]
    exact ⟨fun h i => h _ ⟨i, i.isLt, rfl⟩, fun h x ⟨i, hi, hx⟩ => hx ▸ h ⟨i, hi⟩⟩
  rw [State.ownsSlot, Bool.or_eq_false_iff, hpool, hpool]
  simp only [Option.any_eq_false, beq_eq_false_iff_ne, Option.mem_def]

theorem StagingSlot.gathering_target {x : StagingSlot} {r : RecordId} (h : x.gathering = some r) : x.target = some r := by
  cases x with
  | free => cases h
  | filling g timer => exact h
  | committing g info => cases h

theorem reset_slotsOwned : State.reset.slotsOwned := by
  refine ⟨fun i r hr => ?_, fun i x hx => ?_⟩
  · rw [show State.reset.staging[i] = .free from getElem_replicate_fin _ i] at hr
    cases hr
  · rw [show State.reset.snapshots[i] = .free from getElem_replicate_fin _ i] at hx
    cases hx

theorem kept_slotsOwned : Kept State.slotsOwned where
  window t w x hx h := by
    have hstate {k : WindowId} (hk : t.windows[k].state ≠ .off) (howned : k = w → t.ownsSlot w ≠ false) :
        (t.windows.set w x)[k].state ≠ .off := by
      rw [windows_set]
      split
      · rename_i hkw
        rw [hkw] at hk
        exact fun hoff => howned hkw (hx.owns hk hoff)
      · exact hk
    refine ⟨fun i r hr => hstate (h.1 i r hr) fun hw howns => ?_, fun i y hy => hstate (h.2 i y hy) fun hw howns => ?_⟩
    · exact (State.ownsSlot_eq_false.mp howns).1 i r (StagingSlot.gathering_target hr) hw
    · exact (State.ownsSlot_eq_false.mp howns).2 i y hy hw
  windowsOff t v _ hgather hfree _ := by
    refine ⟨fun i r hr => ?_, fun i x hx => ?_⟩
    · rw [State.setWindows_staging, hgather i] at hr
      cases hr
    · rw [State.setWindows_snapshots, hfree i] at hx
      cases hx
  staging t v hv h := by
    refine ⟨fun i r hr => ?_, h.2⟩
    rw [State.setStaging_staging] at hr
    rcases (hv i).2 with hnone | hold
    · rw [hnone] at hr
      cases hr
    · exact h.1 i r (hold ▸ hr)
  openStaging t slot x r hx _ hoff h := by
    refine ⟨fun i r' hr' => ?_, h.2⟩
    rw [State.setStaging_staging] at hr'
    by_cases hi : i = slot
    · have htarget := staging_set_target t.staging slot i x
      rw [if_pos hi, StagingSlot.gathering_target hr', hx, Option.some.injEq] at htarget
      rw [htarget]
      exact hoff
    · refine h.1 i r' ?_
      simp only [Fin.getElem_fin, Vector.getElem_set] at hr' ⊢
      rwa [if_neg (fun e => hi (Fin.ext e.symm))] at hr'
  snapshots t v hv h := by
    refine ⟨h.1, fun i x hx => ?_⟩
    rw [State.setSnapshots_snapshots] at hx
    have huse : v[i].use = some (x.reader, x.target) := by rw [SnapshotSlot.use, Option.mem_def.mp hx]; rfl
    rcases hv i with hnone | hold
    · rw [hnone] at huse
      cases huse
    · rw [hold, SnapshotSlot.use, Option.map_eq_some_iff] at huse
      obtain ⟨y, hy, hxy⟩ := huse
      rw [Prod.mk.injEq] at hxy
      simpa only [hxy.2, State.setSnapshots_windows] using h.2 i y hy
  openSnapshot u t slot x n r hx _ _ hoff h := by
    refine ⟨h.1, fun i y hy => ?_⟩
    rw [State.setSnapshots_snapshots] at hy
    have huse : (t.snapshots.set slot x)[i].use = some (y.reader, y.target) := by rw [SnapshotSlot.use, Option.mem_def.mp hy]; rfl
    rw [snapshots_set_use] at huse
    split at huse
    · rw [hx, Option.some.injEq, Prod.mk.injEq] at huse
      exact huse.2 ▸ hoff
    · rw [SnapshotSlot.use, Option.map_eq_some_iff] at huse
      obtain ⟨z, hz, hzy⟩ := huse
      rw [Prod.mk.injEq] at hzy
      simpa only [hzy.2, State.setSnapshots_windows] using h.2 i z hz

/-- Settles O59: a slot is opened in a window that is not OFF, and a window becomes OFF when it owns no slot, or at CLEAR, when no
slot gathers or holds a snapshot any more. -/
theorem stepsKeepSlotsOwned : Obligations.StepsKeepSlotsOwned := fun _ _ hs hstep =>
  kept_slotsOwned.acts.step (fun _ _ h => h) (fun _ _ => reset_slotsOwned) hstep hs

end Sys2Proof.Machine

/-! A CLEARING part is quiet (R18, R43, R173). The acts that could disturb it find nothing to act on: no entry routes or holds,
no direct list or waiting operation is left, and no slot gathers or loads. -/

namespace Sys2Proof.Machine

/-- What CLEARING leaves: windows OFF, nothing waiting, no slot gathering or in use for a snapshot, no word to route. -/
structure State.Quiet (s : State) : Prop where
  windows : ∀ w : WindowId, s.windows[w].state = .off
  waitList : s.interlock.waitList = []
  direct : ∀ n : Initiator, s.port.direct[n] = []
  snapshots : ∀ i : Fin 24, s.snapshots[i] = .free
  staging : ∀ i : Fin 16, s.staging[i].gathering = none
  queues : ∀ n : Initiator, ∀ e ∈ s.queues[n], e.routedOut = true

theorem State.clearingQuiet_iff (s : State) : s.clearingQuiet ↔ (s.partState = .clearing → s.Quiet) :=
  forall_congr' fun _ => ⟨fun ⟨h₁, h₂, h₃, h₄, h₅, h₆⟩ => ⟨h₁, h₂, h₃, h₄, h₅, h₆⟩,
    fun ⟨h₁, h₂, h₃, h₄, h₅, h₆⟩ => ⟨h₁, h₂, h₃, h₄, h₅, h₆⟩⟩

/-- While the part is RUNNING nothing is claimed. -/
theorem State.clearingQuiet_of_running {s : State} (h : s.partState = .running) : s.clearingQuiet := fun hc => by
  rw [h] at hc
  cases hc

/-- An act that leaves the part state keeps a CLEARING part quiet when it keeps quiet what is. -/
theorem State.clearingQuiet.act {s t : State} (h : s.clearingQuiet) (hpart : t.partState = s.partState)
    (hquiet : s.partState = .clearing → s.Quiet → t.Quiet) : t.clearingQuiet :=
  t.clearingQuiet_iff.mpr fun hc => hquiet (hpart ▸ hc) (s.clearingQuiet_iff.mp h (hpart ▸ hc))

/-! ### Entries that are routed out -/

/-- An entry that is routed out is DONE, or IN_PROGRESS with every word routed. -/
theorem Entry.routedOut_iff (e : Entry) :
    e.routedOut = true ↔ e.state = .done ∨ (e.state = .inProgress ∧ e.position = e.transfer.length) := by
  simp [Entry.routedOut, Entry.routed]

theorem Entry.routedOut.not_waiting {e : Entry} (h : e.routedOut = true) : e.state ≠ .waiting := by
  rcases e.routedOut_iff.mp h with h | ⟨h, -⟩ <;> rw [h] <;> nofun

theorem Entry.routedOut.not_routing {e : Entry} (h : e.routedOut = true) : e.routing = false := by
  rcases e.routedOut_iff.mp h with h | ⟨h, hp⟩
  · simp [Entry.routing, h]
  · simp [Entry.routing, hp]

theorem Entry.routedOut.hold {e : Entry} (h : e.routedOut = true) : e.hold = none := by
  rcases e.routedOut_iff.mp h with h | ⟨h, -⟩ <;> rw [Entry.hold, h]

theorem Entry.routedOut.settle {e : Entry} (h : e.routedOut = true) : e.settle.routedOut = true := by
  unfold Entry.settle
  split
  · exact (Entry.routedOut_iff _).mpr (.inl rfl)
  · exact h

theorem Entry.routedOut.answer {e : Entry} (h : e.routedOut = true) (i : Nat) (c : Code) (d : Word) :
    (e.answer i c d).routedOut = true := Entry.routedOut.settle h

theorem Entry.routedOut.markRestart {e : Entry} (h : e.routedOut = true) (p : Hold → Bool) (m : Moment) :
    (e.markRestart p m).routedOut = true := by
  rcases e.routedOut_iff.mp h with hs | ⟨hs, -⟩ <;> rw [Entry.markRestart, hs] <;> exact h

theorem Entry.routedOut.closeTick {e : Entry} (h : e.routedOut = true) (timeout : Nat) (t : Tick) :
    (e.closeTick timeout t).routedOut = true := by
  rcases e.routedOut_iff.mp h with hs | ⟨hs, -⟩ <;> rw [Entry.closeTick, hs] <;> exact h

/-- CLEAR leaves no word to route (R17). -/
theorem Entry.clear_routedOut (e : Entry) (n : Initiator) (issued : List WordRef) : (e.clear n issued).routedOut = true := by
  unfold Entry.clear
  split
  · rename_i h
    exact e.routedOut_iff.mpr (.inl h)
  · exact Entry.routedOut.settle ((Entry.routedOut_iff _).mpr (.inr ⟨rfl, rfl⟩))

/-- A queue without a WAITING entry has none to start (R3). -/
theorem startOldest_of_routedOut {q : List Entry} (h : ∀ e ∈ q, e.routedOut = true) : startOldest q = q := by
  induction q with
  | nil => rfl
  | cons e q ih =>
    obtain ⟨he, hq⟩ := List.forall_mem_cons.mp h
    rw [startOldest, if_neg (Entry.routedOut.not_waiting he), ih hq, ite_self]

/-- A changed queue among queues that are routed out. -/
theorem updatePool_routedOut {v : Vector (List Entry) 16} {n : Initiator} {f : List Entry → List Entry}
    (hv : ∀ k : Initiator, ∀ e ∈ v[k], e.routedOut = true) (hf : ∀ q : List Entry, (∀ e ∈ q, e.routedOut = true) →
      ∀ e ∈ f q, e.routedOut = true) (k : Initiator) : ∀ e ∈ (updatePool v n f)[k], e.routedOut = true := by
  rw [getElem_updatePool]
  split
  · exact hf _ (hv n)
  · exact hv k

/-! ### What keeps quiet -/

namespace State.Quiet

variable {s : State} (h : s.Quiet)

include h

theorem setQueues {q : Vector (List Entry) 16} (hq : ∀ n : Initiator, ∀ e ∈ q[n], e.routedOut = true) : (s.setQueues q).Quiet :=
  ⟨h.windows, h.waitList, h.direct, h.snapshots, h.staging, hq⟩

theorem setTransit (l : List HandOver) : (s.setTransit l).Quiet :=
  ⟨h.windows, h.waitList, h.direct, h.snapshots, h.staging, h.queues⟩

theorem setNotice (n : NoticeUnit) : (s.setNotice n).Quiet :=
  ⟨h.windows, h.waitList, h.direct, h.snapshots, h.staging, h.queues⟩

theorem setLastResponse (x : Option Response) : (s.setLastResponse x).Quiet :=
  ⟨h.windows, h.waitList, h.direct, h.snapshots, h.staging, h.queues⟩

theorem setInterlock {i : Interlock} (hi : i.waitList = []) : (s.setInterlock i).Quiet :=
  ⟨h.windows, hi, h.direct, h.snapshots, h.staging, h.queues⟩

theorem setPort {p : MemoryPort} (hp : ∀ n : Initiator, p.direct[n] = []) : (s.setPort p).Quiet :=
  ⟨h.windows, h.waitList, hp, h.snapshots, h.staging, h.queues⟩

theorem setTimeBase (x : TimeBase) : (s.setTimeBase x).Quiet :=
  ⟨h.windows, h.waitList, h.direct, h.snapshots, h.staging, h.queues⟩

theorem setSnapshots {v : Vector SnapshotSlot 24} (hv : ∀ i : Fin 24, v[i] = .free) : (s.setSnapshots v).Quiet :=
  ⟨h.windows, h.waitList, h.direct, hv, h.staging, h.queues⟩

theorem setStaging {v : Vector StagingSlot 16} (hv : ∀ i : Fin 16, v[i].gathering = none) : (s.setStaging v).Quiet :=
  ⟨h.windows, h.waitList, h.direct, h.snapshots, hv, h.queues⟩

theorem setStagingSlot {slot : Fin 16} {x : StagingSlot} (hx : x.gathering = none) : (s.setStaging (s.staging.set slot x)).Quiet :=
  h.setStaging fun i => by
    simp only [Fin.getElem_fin, Vector.getElem_set]
    split
    · exact hx
    · exact h.staging i

theorem handOver (x : HandOver) : (s.handOver x).Quiet := h.setTransit _

theorem raiseIf (b : Bool) (w : WindowId) (e : Event) : (s.raiseIf b w e).Quiet := by
  unfold State.raiseIf
  split
  · exact h.setTransit _
  · exact h

theorem updateReservation (id : Fin 8) (f : Reservation → Reservation) : (s.updateReservation id f).Quiet :=
  h.setInterlock h.waitList

theorem answer (r : WordRef) (c : Code) (d : Word) : (s.answer r c d).Quiet :=
  h.setQueues (updatePool_routedOut h.queues fun q hq e he => by
    obtain ⟨x, hx, rfl⟩ := List.mem_map.mp he
    split
    · exact Entry.routedOut.answer (hq x hx) _ _ _
    · exact hq x hx)

theorem answerEach (refs : List WordRef) (c : Code) (d : List Word) : (s.answerEach refs c d).Quiet := by
  induction refs generalizing s d with
  | nil => exact h
  | cons r rs ih => exact ih (h.answer r c _) _

theorem markRestarts (p : Hold → Bool) (m : Moment) : (s.markRestarts p m).Quiet :=
  h.setQueues fun n e he => by
    rw [Fin.getElem_fin, getElem_mapPool] at he
    obtain ⟨x, hx, rfl⟩ := List.mem_map.mp he
    exact Entry.routedOut.markRestart (h.queues n x hx) p m

/-- An OFF window has nothing to drain (R29). -/
theorem drainCheck (w : WindowId) (m : Moment) : s.drainCheck w m = s := by
  rw [State.drainCheck, if_neg]
  rw [h.windows w]
  simp

/-- With nothing waiting a release lets nothing be taken (R73). -/
theorem release (id : Fin 8) : (s.release id).Quiet := by
  rw [State.release, State.scan, State.setInterlock_interlock]
  dsimp only
  rw [h.waitList]
  exact h.setInterlock rfl

theorem takeHandOver (x : HandOver) : (s.takeHandOver x).Quiet := by
  cases x with
  | event c e => exact h.setNotice _
  | slotFreed w closing => rw [State.takeHandOver, h.drainCheck]; exact h
  | release id => exact h.release id

theorem freeStaging (slot : Fin 16) (m : Moment) : (s.freeStaging slot m).Quiet := by
  unfold State.freeStaging
  split
  · exact h
  · exact ((h.setStagingSlot rfl).markRestarts _ _).handOver _

/-- A commit that ends leaves an OFF window OFF, and raises nothing for it (R38). -/
theorem completeCommit (g : Gather) (q : BitVec 32) (time : Tick) : (s.completeCommit g q time).Quiet := by
  have hmoved : (s.updateWindow g.target.window Window.advance).Quiet :=
    ⟨fun w => by
      rw [State.updateWindow, State.setWindows_windows, getElem_updatePool]
      split
      · exact (Window.advance_frame _).1.mpr (h.windows _)
      · exact h.windows w, h.waitList, h.direct, h.snapshots, h.staging, h.queues⟩
  unfold State.completeCommit
  dsimp only
  rw [if_pos (.inl (h.windows _))]
  exact hmoved

theorem commitResponse (id : Fin 8) (slot : Fin 16) (x : MemStatus) : (s.commitResponse id slot x).Quiet := by
  unfold State.commitResponse
  split
  · split
    · exact (((h.handOver _).completeCommit _ _ _).answer _ _ _).freeStaging _ _
    · split
      · exact (((h.handOver _).raiseIf _ _ _).answer _ _ _).freeStaging _ _
      · exact (h.updateReservation _ _).setStagingSlot rfl
  · exact h
  · exact h

/-- No slot loads. -/
theorem loadResponse (id : Fin 8) (slot : Fin 24) (x : MemStatus) (words : List Word) : s.loadResponse id slot x words = s := by
  rw [State.loadResponse, h.snapshots slot]

theorem deliver (item : Outstanding) (x : MemStatus) (data : List Word) : (s.deliver item x data).Quiet := by
  unfold State.deliver
  split
  · exact h.answerEach _ _ _
  · exact h.setNotice _
  · split
    · exact h
    · split
      · exact (h.handOver _).answerEach _ _ _
      · exact h.commitResponse _ _ _
      · exact h.handOver _
      · rw [h.loadResponse]
        exact h

theorem respondMemory (x : MemStatus) (d : Vector Word 32) : (s.respondMemory x d).Quiet := by
  unfold State.respondMemory
  split
  · exact h
  · rename_i item rest _
    have hport : (s.setPort { s.port with outstanding := rest }).Quiet := h.setPort h.direct
    exact hport.deliver _ _ _

theorem issue (q : Requester) (b : Burst) (o : BurstOwner) : (s.issue q b o).Quiet := h.setPort h.direct

theorem issueReservation (q : Requester) (r : Reservation) : (s.issueReservation q r).Quiet :=
  (h.updateReservation _ _).issue _ _ _

/-- The direct lists are empty, so DIRECT has nothing to issue (R131). -/
theorem issueDirect : s.issueDirect = s := by
  have hnone : s.port.directChoice = none := List.find?_eq_none.mpr fun n _ => by simp [h.direct n, -Fin.getElem_fin]
  rw [State.issueDirect, hnone]

theorem grant : s.grant.Quiet := by
  unfold State.grant
  split
  · rename_i q _
    have hport : (s.setPort (s.port.rotate q)).Quiet := h.setPort fun n => by
      unfold MemoryPort.rotate
      split <;> exact h.direct n
    cases q with
    | direct =>
      rw [State.issueFrom, hport.issueDirect]
      exact hport
    | commit =>
      simp only [State.issueFrom, State.issueCommit]
      split
      · exact hport.issueReservation _ _
      · exact hport
    | load =>
      simp only [State.issueFrom, State.issueLoad]
      split
      · exact hport.issueReservation _ _
      · exact hport
    | notice =>
      simp only [State.issueFrom, State.issueNotice]
      split
      · exact (hport.setNotice _).issue _ _ _
      · exact hport
  · exact h

/-- No entry is routing a word. -/
theorem routeNext (n : Initiator) : s.routeNext n = s := by
  have hnone : s.routingEntry n = none := List.find?_eq_none.mpr fun e he => by
    rw [Entry.routedOut.not_routing (h.queues n e he)]
    exact Bool.false_ne_true
  rw [State.routeNext, hnone]

/-- No entry is HELD. -/
theorem find_held (n : Initiator) : (s.queues[n].find? fun e => e.hold.isSome) = none :=
  List.find?_eq_none.mpr fun e he => by
    rw [Entry.routedOut.hold (h.queues n e he)]
    exact Bool.false_ne_true

theorem restartHeld (n : Initiator) : s.restartHeld n = s := by
  rw [State.restartHeld, State.heldEntry, h.find_held n]

theorem holdTimeout (n : Initiator) : s.holdTimeout n = s := by
  rw [State.holdTimeout, h.find_held n]

theorem returnHead (n : Initiator) : (s.returnHead n).Quiet := by
  unfold State.returnHead
  split
  · exact h
  · rename_i e rest hq
    split
    · refine State.Quiet.setLastResponse (h.setQueues fun k x hx => ?_) _
      simp only [Fin.getElem_fin, Vector.getElem_set] at hx
      split at hx
      · exact h.queues n x (hq ▸ List.mem_cons_of_mem _ hx)
      · exact h.queues k x hx
    · exact h

theorem closeTick : s.closeTick.Quiet := by
  have hqueues := h.setQueues (q := mapPool s.queues fun q => q.map fun e => e.closeTick s.timeBase.holdTimeout s.timeBase.counter)
    fun n e he => by
      rw [Fin.getElem_fin, getElem_mapPool] at he
      obtain ⟨x, hx, rfl⟩ := List.mem_map.mp he
      exact Entry.routedOut.closeTick (h.queues n x hx) _ _
  have hstaging := hqueues.setStaging (v := mapPool s.staging fun x => x.closeTick s.timeBase.gatherTimeout s.timeBase.counter)
    fun i => by
      have hi := h.staging i
      rw [Fin.getElem_fin, getElem_mapPool]
      rw [Fin.getElem_fin] at hi
      cases hx : s.staging[i.val] with
      | filling g t => rw [hx] at hi; cases hi
      | free => rfl
      | committing g info => rfl
  have hsnapshots := hstaging.setSnapshots (v := mapPool s.snapshots fun x => x.closeTick s.timeBase.snapshotTimeout s.timeBase.counter)
    fun i => by
      rw [Fin.getElem_fin, getElem_mapPool, show s.snapshots[i.val] = .free from h.snapshots i]
      rfl
  exact hsnapshots.setTimeBase _

/-- No slot gathers. -/
theorem gatherExpiry (slot : Fin 16) : s.gatherExpiry slot = s := by
  have hi := h.staging slot
  unfold State.gatherExpiry
  split
  · rename_i hx
    rw [hx] at hi
    cases hi
  · rfl
  · rfl

/-- No slot holds a snapshot. -/
theorem snapshotExpiry (slot : Fin 24) : s.snapshotExpiry slot = s := by
  rw [State.snapshotExpiry, h.snapshots slot]

end State.Quiet

/-- CLEAR leaves the part quiet (R17, R43, R63, R84, R85, R110). -/
theorem State.clearBlocks_quiet (s : State) : s.clearBlocks.Quiet := by
  refine ⟨fun w => ?_, rfl, fun n => getElem_replicate_fin _ n, fun i => getElem_replicate_fin _ i, fun i => ?_, fun n e he => ?_⟩
  · simp only [State.clearBlocks, Fin.getElem_fin, getElem_mapPool]
    rfl
  · simp only [State.clearBlocks, Fin.getElem_fin, Vector.getElem_ofFn]
    cases s.staging[i.val] with
    | committing g info => simp only [StagingSlot.clear]; split <;> rfl
    | free => rfl
    | filling g timer => rfl
  · simp only [State.clearBlocks, Fin.getElem_fin, Vector.getElem_ofFn] at he
    obtain ⟨x, -, rfl⟩ := List.mem_map.mp he
    exact x.clear_routedOut n _

/-! ### The rules of link commands leave the part state -/

section
variable {t : State}

theorem State.putWindowRule_partState (w : WindowId) (put : Window → Option Window) : (t.putWindowRule w put).partState = t.partState := by
  unfold State.putWindowRule
  (repeat' split) <;> simp

theorem State.enableRule_partState (w : WindowId) : (t.enableRule w).partState = t.partState := by
  unfold State.enableRule
  (repeat' split) <;> simp

theorem State.disableRule_partState (w : WindowId) : (t.disableRule w).partState = t.partState := by
  unfold State.disableRule
  split <;> simp

theorem State.reopenRule_partState (w : WindowId) : (t.reopenRule w).partState = t.partState := by
  unfold State.reopenRule
  split <;> simp

theorem State.flushRule_partState (w : WindowId) : (t.flushRule w).partState = t.partState := by
  unfold State.flushRule
  split <;> simp

theorem State.setRingRule_partState (r : Ring) (fault : Byte) : (t.setRingRule r fault).partState = t.partState := by
  unfold State.setRingRule
  (repeat' split) <;> simp

theorem State.setClassesRule_partState (mode : Byte) (masked : BitVec 16) : (t.setClassesRule mode masked).partState = t.partState := by
  unfold State.setClassesRule
  split <;> simp

theorem State.restartNoticesRule_partState : t.restartNoticesRule.partState = t.partState := by
  unfold State.restartNoticesRule
  split <;> simp

theorem State.setPortRule_partState (mode : Byte) : (t.setPortRule mode).partState = t.partState := by
  unfold State.setPortRule
  split <;> simp

end

theorem kept_clearingQuiet : KeptByActs State.clearingQuiet where
  transit _ _ h := h
  heldBack _ _ h := h
  link _ _ h := h
  timeBase _ _ h := h
  takeHandOver t x h := h.act (by simp) fun _ hq => hq.takeHandOver x
  takeRequest t n a x hready _ := by
    simp only [State.ready, Bool.and_eq_true, beq_iff_eq] at hready
    exact State.clearingQuiet_of_running (by simpa using hready.1.2)
  startOldest t n h := h.act rfl fun _ hq => hq.setQueues (updatePool_routedOut hq.queues fun q hout => by
    rwa [startOldest_of_routedOut hout])
  routeNext t n h := h.act (by simp) fun _ hq => by rwa [hq.routeNext]
  restartHeld t n h := h.act (by simp) fun _ hq => by rwa [hq.restartHeld]
  holdTimeout t n h := h.act (by simp) fun _ hq => by rwa [hq.holdTimeout]
  returnHead t n h := h.act (by simp) fun _ hq => hq.returnHead n
  grant t h := h.act (by simp) fun _ hq => hq.grant
  respondMemory t x d h := h.act (by simp) fun _ hq => hq.respondMemory x d
  writerTest t h := h.act (by simp) fun hc hq => by
    rw [State.writerTest, if_neg (by rw [hc]; nofun)]
    exact hq
  closeTick t h := h.act (by simp) fun _ hq => hq.closeTick
  gatherExpiry t slot h := h.act (by simp) fun _ hq => by rwa [hq.gatherExpiry]
  snapshotExpiry t slot h := h.act (by simp) fun _ hq => by rwa [hq.snapshotExpiry]
  clearingEnd _ _ := State.clearingQuiet_of_running rfl
  getStatusRule _ h := h
  putWindowRule t w _ _ _ _ _ _ _ _ hr _ := State.clearingQuiet_of_running ((t.putWindowRule_partState w _).trans hr)
  enableRule t w hr _ := State.clearingQuiet_of_running ((t.enableRule_partState w).trans hr)
  disableRule t w hr _ := State.clearingQuiet_of_running ((t.disableRule_partState w).trans hr)
  reopenRule t w hr _ := State.clearingQuiet_of_running ((t.reopenRule_partState w).trans hr)
  flushRule t w hr _ := State.clearingQuiet_of_running ((t.flushRule_partState w).trans hr)
  setRingRule t r fault hr _ := State.clearingQuiet_of_running ((t.setRingRule_partState r fault).trans hr)
  setClassesRule t mode masked hr _ := State.clearingQuiet_of_running ((t.setClassesRule_partState mode masked).trans hr)
  restartNoticesRule t hr _ := State.clearingQuiet_of_running (t.restartNoticesRule_partState.trans hr)
  setPortRule t mode hr _ := State.clearingQuiet_of_running ((t.setPortRule_partState mode).trans hr)
  clearBlocks t _ _ := t.clearBlocks.clearingQuiet_iff.mpr fun _ => t.clearBlocks_quiet

/-- Settles O60: while RUNNING nothing is claimed and CLEAR makes the part quiet; in CLEARING each act finds nothing to route, to
take, to gather or to load. -/
theorem stepsKeepClearingQuiet : Obligations.StepsKeepClearingQuiet := fun _ _ hs hstep =>
  kept_clearingQuiet.step (fun _ _ h => h) (fun _ _ => State.clearingQuiet_of_running rfl) hstep hs

/-- Settles O6: each invariant at the reset values. -/
theorem resetHasEveryInvariant : Obligations.ResetHasEveryInvariant :=
  ⟨reset_queuesSound, reset_outstandingBounded, reset_reservationsApart, reset_classesLawful, reset_ringLawful, reset_stagingUnique,
    reset_snapshotLimits, reset_cursorsLawful, reset_windowsApart, reset_slotsOwned, State.clearingQuiet_of_running rfl⟩

end Sys2Proof.Machine

/-! The step, the pins and the frames of the management link. `frameAct` is what a frame's command does once the link has taken
it; every command that is a frame is `State.frame` of it. -/

namespace Sys2Proof.Machine

/-- Settles O1: the step takes the front of the queue. -/
theorem stepRunsTheFrontCommand : Obligations.StepRunsTheFrontCommand := fun _ _ _ => rfl

/-! ### Frames -/

/-- The own rule of a command that names a window: BAD_ARG for a number above 31 (R181). -/
def windowRule (window : Byte) (results : Nat) (rule : State → WindowId → State) (t : State) : State :=
  match windowOperand window with
  | none => t.respond .badArg (List.replicate results 0)
  | some w => rule t w

/-- The act of a link command other than GET_STATUS: the refusals of R177 and R181, or its own rule. -/
def linkAct (frame : List Byte) (results : Nat) (own : State → State) (t : State) : State :=
  match t.linkRefusal frame with
  | some status => t.respond status (List.replicate results 0)
  | none => own t

theorem State.linkCommand_eq (s : State) (frame : List Byte) (results : Nat) (own : State → State) :
    s.linkCommand frame results own = s.frame (linkAct frame results own) := rfl

theorem State.windowCommand_eq (s : State) (frame : List Byte) (window : Byte) (results : Nat) (rule : State → WindowId → State) :
    s.windowCommand frame window results rule = s.frame (linkAct frame results (windowRule window results rule)) := rfl

/-- A link command's own rule, looked at after the refusals of R177 and R181. -/
def ownRule : Instr → State → State
  | .getWindow w _ => windowRule w 22 State.getWindowRule
  | .putWindow w base rw rc flags ws rs cls ev _ =>
    windowRule w 0 fun t v => t.putWindowRule v fun old => putOperand old base rw rc flags ws rs cls ev
  | .enableWindow w _ => windowRule w 0 State.enableRule
  | .disableWindow w _ => windowRule w 0 State.disableRule
  | .reopenWindow w _ => windowRule w 0 State.reopenRule
  | .flushWindow w _ => windowRule w 0 State.flushRule
  | .setTimers g h sn _ => fun t => t.setTimersRule g.toNat h.toNat sn.toNat
  | .setClock mhz _ => fun t => t.setClockRule mhz.toNat
  | .setRing base cap ack fault _ => fun t => t.setRingRule ⟨base, cap.toNat, ack⟩ fault
  | .setClasses mode masked _ => fun t => t.setClassesRule mode masked
  | .getClass c _ => fun t => t.getClassRule c
  | .restartNotices _ => State.restartNoticesRule
  | .setPort mode _ => fun t => t.setPortRule mode
  | .clear _ => fun t => t.clearBlocks.respond .accepted []
  | _ => id

/-- The act of a frame that the link has taken: GET_STATUS is carried out in both part states, an unknown command is refused,
and every other one is refused (R177, R181) or follows its own rule. -/
def frameAct : Instr → State → State
  | .getStatus check => fun t =>
    if frameSound (encodeFrame (.getStatus check)) then t.getStatusRule else t.respond .badFrame (List.replicate 19 0)
  | .unknownCommand _ _ => fun t => t.respond .badFrame []
  | c => linkAct (encodeFrame c) (resultBytes c) (ownRule c)

/-- Every command that is a frame is the frame of its act (R176). -/
theorem exec_frame {c : Instr} (hwell : c.wellFormed = true) (hframe : encodeFrame c ≠ []) (s : State) :
    exec c s = .next (s.frame (frameAct c)) := by
  cases c with
  | unknownCommand code check =>
    have hknown : ¬ knownCodes.contains code = true := by simpa [Instr.wellFormed] using hwell
    rw [exec, execUnknownCommand, if_neg hknown]
    rfl
  | pinReset | pinResetRelease | requestTaken _ _ _ | entryStart _ | routeWord _ | restart _ | holdExpiry _ | responseReturn _
  | portGrant | memoryResponse _ _ | noticeWriteStart | tickClose | gatherTimeout _ | snapshotTimeout _ | clearingEnd
  | frameCut => exact absurd rfl hframe
  | getStatus _ => rfl
  | getWindow _ _ | putWindow _ _ _ _ _ _ _ _ _ _ | enableWindow _ _ | disableWindow _ _ | reopenWindow _ _
  | flushWindow _ _ => exact congrArg Host.Outcome.next (s.windowCommand_eq _ _ _ _)
  | setTimers _ _ _ _ | setClock _ _ | setRing _ _ _ _ _ | setClasses _ _ _ | getClass _ _ | restartNotices _ | setPort _ _
  | clear _ => exact congrArg Host.Outcome.next (s.linkCommand_eq _ _ _)

/-- The act of a command that is no frame. -/
def eventAct : Instr → State → State
  | .requestTaken n a x => fun t => if t.ready n then t.takeRequest n a x else t
  | .entryStart n => fun t => t.setQueues (updatePool t.queues n startOldest)
  | .routeWord n => fun t => t.routeNext n
  | .restart n => fun t => t.restartHeld n
  | .holdExpiry n => fun t => t.holdTimeout n
  | .responseReturn n => fun t => t.returnHead n
  | .portGrant => State.grant
  | .memoryResponse x d => fun t => t.respondMemory x d
  | .tickClose => State.closeTick
  | .gatherTimeout slot => fun t => t.gatherExpiry slot
  | .snapshotTimeout slot => fun t => t.snapshotExpiry slot
  | _ => id

/-- A command of the part that is neither a frame nor a pin event, nor one of the two that stand to the hand-overs in a way of
their own, is the event of its act. -/
theorem exec_event {c : Instr} (hwell : c.wellFormed = true) (hframe : encodeFrame c = []) (hreset : c ≠ .pinReset)
    (hrelease : c ≠ .pinResetRelease) (hcut : c ≠ .frameCut) (hnotice : c ≠ .noticeWriteStart) (hend : c ≠ .clearingEnd) (s : State) :
    exec c s = .next (s.event (eventAct c)) := by
  cases c with
  | requestTaken n a x =>
    rw [exec, execRequestTaken, if_pos (show requestWellFormed a x = true from hwell)]
    rfl
  | pinReset => exact absurd rfl hreset
  | pinResetRelease => exact absurd rfl hrelease
  | frameCut => exact absurd rfl hcut
  | noticeWriteStart => exact absurd rfl hnotice
  | clearingEnd => exact absurd rfl hend
  | entryStart _ | routeWord _ | restart _ | holdExpiry _ | responseReturn _ | portGrant | memoryResponse _ _ | tickClose
  | gatherTimeout _ | snapshotTimeout _ => rfl
  | unknownCommand _ _ | getStatus _ | getWindow _ _ | putWindow _ _ _ _ _ _ _ _ _ _ | enableWindow _ _ | disableWindow _ _
  | reopenWindow _ _ | flushWindow _ _ | setTimers _ _ _ _ | setClock _ _ | setRing _ _ _ _ _ | setClasses _ _ _
  | getClass _ _ | restartNotices _ | setPort _ _ | clear _ => cases hframe

/-! ### Every command answers (log 15) -/

/-- Settles O3: a well-formed command is a frame, an event, or one of the five others, each of which answers; the two commands
that check their term fault on an ill-formed one. -/
theorem wellFormedCommandsComplete : Obligations.WellFormedCommandsComplete := by
  intro c s
  constructor
  · intro hwell
    by_cases hframe : encodeFrame c = []
    · cases c with
      | pinReset | pinResetRelease | frameCut | noticeWriteStart | clearingEnd => exact ⟨_, rfl⟩
      | _ => exact ⟨_, exec_event hwell hframe nofun nofun nofun nofun nofun s⟩
    · exact ⟨_, exec_frame hwell hframe s⟩
  · intro hill
    cases c with
    | requestTaken n a x =>
      rw [exec, execRequestTaken, if_neg (by rw [show requestWellFormed a x = false from hill]; nofun)]
    | unknownCommand code check =>
      rw [exec, execUnknownCommand, if_pos (by simpa [Instr.wellFormed] using hill)]
    | _ => cases hill

/-! ### The pins -/

/-- Nothing in transit, nothing to take (log 8). -/
theorem State.takeOldest_of_none {s : State} (h : s.transit = []) : s.takeOldest = s := by
  rw [State.takeOldest, h]

/-- Settles O5: the values are those of `State.pinValues`, field by field. -/
theorem pinResetTakesEveryResetValue : Obligations.PinResetTakesEveryResetValue := by
  refine ⟨rfl, fun s => ⟨rfl, fun hlow => ?_, fun hhigh hnone => ?_⟩⟩
  · rw [exec, execPinResetRelease, hlow]
    rfl
  · rw [exec, execPinResetRelease, hhigh, if_pos rfl, State.takeOldest_of_none hnone]

/-! ### What no command changes -/

/-- A state with the waiting commands and the level of RST_N of another. -/
abbrev State.SameOutside (s t : State) : Prop := t.pending = s.pending ∧ t.rstN = s.rstN

/-- Each act leaves the waiting commands and the level of RST_N. -/
theorem kept_sameOutside (s : State) : KeptByActs s.SameOutside where
  transit _ _ h := h
  heldBack _ _ h := h
  link _ _ h := h
  timeBase _ _ h := h
  takeHandOver t x h := by simpa [State.SameOutside] using h
  takeRequest t n a x _ h := by simpa [State.SameOutside] using h
  startOldest t n h := h
  routeNext t n h := by simpa [State.SameOutside] using h
  restartHeld t n h := by simpa [State.SameOutside] using h
  holdTimeout t n h := by simpa [State.SameOutside] using h
  returnHead t n h := by simpa [State.SameOutside] using h
  grant t h := by simpa [State.SameOutside] using h
  respondMemory t x d h := by simpa [State.SameOutside] using h
  writerTest t h := by simpa [State.SameOutside] using h
  closeTick t h := by simpa [State.SameOutside] using h
  gatherExpiry t slot h := by simpa [State.SameOutside] using h
  snapshotExpiry t slot h := by simpa [State.SameOutside] using h
  clearingEnd _ h := h
  getStatusRule _ h := h
  putWindowRule t w _ _ _ _ _ _ _ _ _ h := by unfold State.putWindowRule; (repeat' split) <;> simpa [State.SameOutside] using h
  enableRule t w _ h := by unfold State.enableRule; (repeat' split) <;> simpa [State.SameOutside] using h
  disableRule t w _ h := by unfold State.disableRule; split <;> simpa [State.SameOutside] using h
  reopenRule t w _ h := by unfold State.reopenRule; split <;> simpa [State.SameOutside] using h
  flushRule t w _ h := by unfold State.flushRule; split <;> simpa [State.SameOutside] using h
  setRingRule t r fault _ h := by unfold State.setRingRule; (repeat' split) <;> simpa [State.SameOutside] using h
  setClassesRule t mode masked _ h := by unfold State.setClassesRule; split <;> simpa [State.SameOutside] using h
  restartNoticesRule t _ h := by unfold State.restartNoticesRule; split <;> simpa [State.SameOutside] using h
  setPortRule t mode _ h := by unfold State.setPortRule; split <;> simpa [State.SameOutside] using h
  clearBlocks _ _ h := by simpa only [State.SameOutside, State.clearBlocks] using h

/-- While RST_N is low a command changes at most the link (R19, R66, R86, R111, R140, R165, R180). -/
theorem exec_low {c : Instr} {s : State} (hlow : s.rstN = false) (hwell : c.wellFormed = true) (hreset : c ≠ .pinReset)
    (hrelease : c ≠ .pinResetRelease) :
    exec c s = .next (if c = .frameCut then { s with link := ⟨none, false⟩ }
      else if encodeFrame c ≠ [] then { s with link := ⟨none, true⟩ } else s) := by
  by_cases hcut : c = .frameCut
  · subst hcut
    rw [if_pos rfl, exec, execFrameCut, if_neg (by rw [hlow]; nofun)]
    rfl
  rw [if_neg hcut]
  by_cases hframe : encodeFrame c = []
  · rw [if_neg (not_not.mpr hframe)]
    by_cases hnotice : c = .noticeWriteStart
    · subst hnotice
      rw [exec, execNoticeWriteStart, State.testEvent, if_neg (by rw [hlow]; nofun)]
    by_cases hend : c = .clearingEnd
    · subst hend
      rw [exec, execClearingEnd, State.eventLast, if_neg (by rw [hlow]; nofun)]
    rw [exec_event hwell hframe hreset hrelease hcut hnotice hend, State.event_reset _ _ hlow]
  · rw [if_pos hframe, exec_frame hwell hframe, State.frame_reset _ _ hlow]
    rfl

/-- Settles O2: no act touches the waiting commands or RST_N, and the pin events keep the waiting commands. -/
theorem commandsLeaveQueueAndResetAlone : Obligations.CommandsLeaveQueueAndResetAlone := by
  refine ⟨fun c s t h => ?_, fun c s hlow hwell hreset hrelease => exec_low hlow hwell hreset hrelease⟩
  by_cases hreset : c = .pinReset
  · subst hreset
    injection h with h
    subst h
    exact ⟨rfl, fun h => absurd rfl h⟩
  by_cases hrelease : c = .pinResetRelease
  · subst hrelease
    injection h with h
    subst h
    refine ⟨?_, fun _ h => absurd rfl h⟩
    split
    · simp
    · rfl
  · obtain ⟨hpending, hrst⟩ := (kept_sameOutside s).exec h hreset hrelease ⟨rfl, rfl⟩
    exact ⟨hpending, fun _ _ => hrst⟩

end Sys2Proof.Machine

/-! What is in transit between blocks, and the commands before or after it (log 8). Every command of the part but the notice
writer's test and CLEARING_END is the event of one act. -/

namespace Sys2Proof.Machine

/-- While RST_N is high a command of the part is an event: its act comes after the hand-overs in transit, or before those held
back. -/
theorem exec_isEvent {c : Instr} (hwell : c.wellFormed = true) (hreset : c ≠ .pinReset) (hrelease : c ≠ .pinResetRelease)
    (hnotice : c ≠ .noticeWriteStart) (hend : c ≠ .clearingEnd) :
    ∃ act : State → State, ∀ s : State, s.rstN = true → exec c s = .next (s.event act) := by
  by_cases hcut : c = .frameCut
  · subst hcut
    exact ⟨State.cutFrame, fun s hs => by rw [exec, execFrameCut, if_pos hs]⟩
  by_cases hframe : encodeFrame c = []
  · exact ⟨eventAct c, fun s _ => exec_event hwell hframe hreset hrelease hcut hnotice hend s⟩
  · exact ⟨fun t => if t.link.heldLow then t.cutFrame else frameAct c t, fun s hs => by
      rw [exec_frame hwell hframe, State.frame, if_pos hs]⟩

/-- With nothing held back, an act that no hand-over comes after is an event. -/
theorem State.eventLast_eq_event {s : State} (act : State → State) (hheld : s.heldBack = false) : s.eventLast act = s.event act := by
  have hsame : s.setHeldBack false = s := by rw [State.setHeldBack, ← hheld]
  simp [State.eventLast, State.event, hsame, hheld]

/-- Such an act finds nothing held back (R85, R186). -/
theorem State.eventLast_heldBack {s : State} (act : State → State) (hrst : s.rstN = true) :
    s.eventLast act = (s.setHeldBack false).eventLast act := by
  rw [State.eventLast, State.eventLast, if_pos hrst, if_pos (by simpa using hrst)]
  rfl

/-- An event on a state is the event on the state with its hand-overs taken. -/
theorem State.event_settled {s : State} (act : State → State) (hrst : s.rstN = true) (hheld : s.heldBack = false) :
    s.event act = s.takeTransit.event act := by
  rw [State.event_takeTransit _ _ hrst hheld, State.event_taking _ _ (by simpa using hrst) (by simp) (by simpa using hheld)]

/-- So it is for every command but the pin events and the notice writer's test. -/
theorem exec_settled {c : Instr} {s : State} (hrst : s.rstN = true) (hheld : s.heldBack = false) (hreset : c ≠ .pinReset)
    (hrelease : c ≠ .pinResetRelease) (hnotice : c ≠ .noticeWriteStart) : exec c s = exec c s.takeTransit := by
  by_cases hwell : c.wellFormed = true
  · by_cases hend : c = .clearingEnd
    · subst hend
      rw [exec, execClearingEnd, State.eventLast_eq_event _ hheld, State.event_settled _ hrst hheld, exec, execClearingEnd,
        State.eventLast_eq_event _ (by simpa using hheld)]
    · obtain ⟨act, hact⟩ := exec_isEvent hwell hreset hrelease hnotice hend
      rw [hact s hrst, hact _ (by simpa using hrst), State.event_settled act hrst hheld]
  · have hill : c.wellFormed = false := by simpa using hwell
    rw [(wellFormedCommandsComplete c s).2 hill, (wellFormedCommandsComplete c s.takeTransit).2 hill]

/-- The state on which a command acts that comes before the hand-overs held back. -/
abbrev State.withoutTransit (s : State) : State := { s with transit := [], heldBack := false }

theorem State.event_overtakes {s : State} (act : State → State) (hrst : s.rstN = true) (hheld : s.heldBack = true) :
    ∃ t, s.withoutTransit.event act = t ∧ s.event act = { t with transit := s.transit ++ t.transit } :=
  ⟨act s.withoutTransit, State.event_taking _ act hrst rfl rfl, by rw [State.event_heldBack _ _ hrst hheld]; rfl⟩

/-- A command that finds the hand-overs held back comes before them; they stay in transit ahead of its own. -/
theorem exec_overtakes {c : Instr} {s : State} (hrst : s.rstN = true) (hheld : s.heldBack = true) (hwell : c.wellFormed = true)
    (hreset : c ≠ .pinReset) (hrelease : c ≠ .pinResetRelease) (hend : c ≠ .clearingEnd) :
    ∃ t, exec c s.withoutTransit = .next t ∧ exec c s = .next { t with transit := s.transit ++ t.transit } := by
  by_cases hnotice : c = .noticeWriteStart
  · subst hnotice
    refine ⟨s.withoutTransit.writerTest, execNoticeWriteStart_taking s.withoutTransit hrst rfl rfl, ?_⟩
    rw [exec, execNoticeWriteStart, State.testEvent, if_pos hrst, if_pos hheld]
    rfl
  · obtain ⟨act, hact⟩ := exec_isEvent hwell hreset hrelease hnotice hend
    obtain ⟨t, hbefore, hafter⟩ := State.event_overtakes act hrst hheld
    exact ⟨t, by rw [hact s.withoutTransit hrst, hbefore], by rw [hact s hrst, hafter]⟩

theorem step_of_none {s : State} (hnone : s.pending = []) : step s = .next s.clkPeriod := by
  rw [step, hnone]

/-- The first taking of what is in transit leaves events alone there (R29). -/
theorem State.takeHandOvers_leaves_events (s : State) (l : List HandOver) :
    ∀ h ∈ ((s.setTransit []).takeHandOvers l).transit, ∃ k e, h = .event k e := by
  obtain ⟨left, hleft, hevents⟩ := (s.setTransit []).takeHandOvers_transit l
  rw [hleft]
  intro h hmem
  have hevent : h.isEvent = true := List.all_eq_true.mp hevents h (by simpa using hmem)
  cases h with
  | event k e => exact ⟨k, e, rfl⟩
  | slotFreed _ _ => cases hevent
  | release _ => cases hevent

/-- The oldest hand-over is held back, or taken when it is (log 8). -/
theorem State.takeOldest_of_cons {s : State} {h : HandOver} {rest : List HandOver} (htransit : s.transit = h :: rest) :
    s.takeOldest = if s.heldBack then (s.setTransit rest).takeHandOver h else s.setHeldBack true := by
  unfold State.takeOldest
  split
  · next hnone => rw [htransit] at hnone; cases hnone
  · next hcons => rw [htransit] at hcons; cases hcons; rfl

/-- Settles O4: `exec_settled` and `exec_overtakes` say how a command stands to the hand-overs, and the release of a pin that is
high already is `State.takeOldest`. -/
theorem handOversAreTakenInOrder : Obligations.HandOversAreTakenInOrder := by
  refine ⟨fun _ _ _ => ⟨rfl, rfl⟩, fun _ => ⟨fun _ _ => rfl, fun _ => rfl, fun _ _ => rfl, fun _ => rfl⟩,
    fun s hrst hheld => ⟨s.takeHandOvers_leaves_events s.transit, s.takeTransit_transit,
      fun c hreset hrelease hnotice => exec_settled hrst hheld hreset hrelease hnotice, fun hnone => ?_⟩,
    fun s hrst hheld => ⟨fun c hwell hreset hrelease hend => exec_overtakes hrst hheld hwell hreset hrelease hend,
      congrArg Host.Outcome.next (State.eventLast_heldBack _ hrst),
      fun hnone => ?_⟩,
    fun s h rest hrst htransit => ⟨fun hheld => ?_, fun hheld => ?_⟩⟩
  · change step s = step s.takeTransit
    rw [step_of_none hnone, step_of_none (s := s.takeTransit) (by simpa using hnone), State.clkPeriod, State.clkPeriod,
      State.event_settled _ hrst hheld]
  · obtain ⟨t, hbefore, hafter⟩ := State.event_overtakes (s := s) (fun t =>
      if t.timeBase.declaredClock ≤ t.timeBase.position + 1 then t.closeTick
      else t.setTimeBase { t.timeBase with position := t.timeBase.position + 1 }) hrst hheld
    exact ⟨t, by rw [step_of_none (s := s.withoutTransit) hnone]; exact congrArg _ hbefore,
      by rw [step_of_none hnone]; exact congrArg _ hafter⟩
  · rw [exec, execPinResetRelease, if_pos hrst, State.takeOldest_of_cons htransit, hheld]
    rfl
  · rw [exec, execPinResetRelease, if_pos hrst, State.takeOldest_of_cons htransit, if_pos hheld]
    rfl

end Sys2Proof.Machine

/-! The frames of the link: their bytes, their refusals and the response on MISO (R176 to R181, R188). -/

namespace Sys2Proof.Machine

/-! ### Bytes and commands -/

/-- A frame whose check byte has not come is cut (R178). -/
theorem decodeOperands_of_short {code : Byte} {rest : List Byte} (hshort : rest.length ≤ operandBytes code) :
    decodeOperands code rest = .frameCut := by
  by_cases hknown : code ∈ knownCodes
  · simp only [knownCodes, List.mem_cons, List.not_mem_nil, or_false] at hknown
    rcases hknown with rfl | rfl | rfl | rfl | rfl | rfl | rfl | rfl | rfl | rfl | rfl | rfl | rfl | rfl | rfl <;>
    · simp only [decodeOperands, BitVec.reduceEq, reduceIte]
      split
      · exact absurd hshort (by simp [operandBytes])
      · rfl
  · simp only [knownCodes, List.mem_cons, List.not_mem_nil, or_false, not_or] at hknown
    simp only [operandBytes, hknown, or_self, if_false, Nat.le_zero_eq, List.length_eq_zero_iff] at hshort
    simp only [decodeOperands, hknown, if_false, hshort]

/-- The code and the bytes after it spell the command, whatever follows its check byte (R176, R188). -/
theorem decodeFrame_encodeFrame {c : Instr} (hwell : c.wellFormed = true) (hframe : encodeFrame c ≠ []) (trailing : List Byte) :
    decodeFrame (encodeFrame c ++ trailing) = c := by
  cases c with
  | pinReset | pinResetRelease | requestTaken _ _ _ | entryStart _ | routeWord _ | restart _ | holdExpiry _ | responseReturn _
  | portGrant | memoryResponse _ _ | noticeWriteStart | tickClose | gatherTimeout _ | snapshotTimeout _ | clearingEnd
  | frameCut => exact absurd rfl hframe
  | unknownCommand code check =>
    have hunknown : code ∉ knownCodes := by simpa [Instr.wellFormed] using hwell
    simp only [knownCodes, List.mem_cons, List.not_mem_nil, or_false, not_or] at hunknown
    simp only [encodeFrame, List.cons_append, decodeFrame, decodeOperands, hunknown, if_false]
  | getStatus _ | getWindow _ _ | enableWindow _ _ | disableWindow _ _ | reopenWindow _ _ | flushWindow _ _ | getClass _ _
  | restartNotices _ | setPort _ _ | clear _ => rfl
  | putWindow _ _ _ _ _ _ _ _ _ _ | setTimers _ _ _ _ | setClock _ _ | setRing _ _ _ _ _ | setClasses _ _ _ =>
    simp [encodeFrame, decodeFrame, decodeOperands, bytes2, bytes5]

/-- A frame is its command byte, that byte's operands and the check byte (R176, R179). -/
theorem encodeFrame_length {c : Instr} (hwell : c.wellFormed = true) : Laws.FrameLength.Statement c := by
  cases c with
  | pinReset | pinResetRelease | requestTaken _ _ _ | entryStart _ | routeWord _ | restart _ | holdExpiry _ | responseReturn _
  | portGrant | memoryResponse _ _ | noticeWriteStart | tickClose | gatherTimeout _ | snapshotTimeout _ | clearingEnd
  | frameCut => exact Laws.FrameLength.of_none rfl
  | unknownCommand code check => exact Laws.FrameLength.unknownCommand code check
  | getStatus _ | getWindow _ _ | enableWindow _ _ | disableWindow _ _ | reopenWindow _ _ | flushWindow _ _ | getClass _ _
  | restartNotices _ | setPort _ _ | clear _ | putWindow _ _ _ _ _ _ _ _ _ _ | setTimers _ _ _ _ | setClock _ _
  | setRing _ _ _ _ _ | setClasses _ _ _ => exact Laws.FrameLength.of_frame rfl rfl

/-- Settles O7: a whole frame spells its command, and one that ends earlier has fewer bytes than its code promises. -/
theorem framesDecodeToTheirCommand : Obligations.FramesDecodeToTheirCommand := by
  intro c hwell hframe
  refine ⟨decodeFrame_encodeFrame hwell hframe, fun k hk => ?_⟩
  obtain ⟨code, rest, hbytes⟩ := List.exists_cons_of_ne_nil hframe
  have hlength : rest.length = operandBytes code + 1 := encodeFrame_length hwell hwell code rest hbytes
  rw [hbytes] at hk ⊢
  cases k with
  | zero => rfl
  | succ k =>
    simp only [List.length_cons] at hk
    exact decodeOperands_of_short (by rw [List.length_take]; omega)

/-! ### Refusals -/

/-- The check byte brings the sum of a response to 0 (R177). -/
theorem byteSum_responseBytes (x : Status) (r : List Byte) : byteSum (responseBytes x r) = 0 := by
  rw [responseBytes, byteSum_append, byteSum_cons _ [], byteSum_nil, add_zero, add_sub_cancel]

/-- The link takes the frame: what follows is its act (R176). -/
theorem exec_taken {c : Instr} {s : State} (hwell : c.wellFormed = true) (hframe : encodeFrame c ≠ []) (htakes : s.linkTakes) :
    exec c s = .next (frameAct c s) := by
  obtain ⟨⟨hrst, htransit, hheld⟩, hlow⟩ := htakes
  rw [exec_frame hwell hframe, State.frame_taking _ _ hrst htransit hheld hlow]

theorem linkAct_damaged {frame : List Byte} {s : State} (hbad : byteSum frame ≠ 0) (results : Nat) (own : State → State) :
    linkAct frame results own s = s.answered .badFrame (List.replicate results 0) := by
  have hsound : frameSound frame = false := by simpa [frameSound] using hbad
  simp [linkAct, State.linkRefusal, hsound, State.respond_eq_answered]

theorem linkAct_busy {frame : List Byte} {s : State} (hsum : byteSum frame = 0) (hclearing : s.partState = .clearing)
    (results : Nat) (own : State → State) : linkAct frame results own s = s.answered .busy (List.replicate results 0) := by
  have hsound : frameSound frame = true := (frameSound_iff _).mpr hsum
  simp [linkAct, State.linkRefusal, hsound, hclearing, State.respond_eq_answered]

theorem linkAct_open {frame : List Byte} {s : State} (hsum : byteSum frame = 0) (hrunning : s.partState = .running)
    (results : Nat) (own : State → State) : linkAct frame results own s = own s := by
  have hsound : frameSound frame = true := (frameSound_iff _).mpr hsum
  simp [linkAct, State.linkRefusal, hsound, hrunning]

/-- A command of the fifteen codes but GET_STATUS is refused first, and follows its own rule otherwise (R177, R181). -/
theorem frameAct_eq {c : Instr} (hterm : linkCommandTerm c = true) (hwell : c.wellFormed = true) (hstatus : ∀ k, c ≠ .getStatus k) :
    frameAct c = linkAct (encodeFrame c) (resultBytes c) (ownRule c) := by
  cases c with
  | getStatus k => exact absurd rfl (hstatus k)
  | unknownCommand code check =>
    have hknown : knownCodes.contains code = true := hterm
    rw [Instr.wellFormed, hknown] at hwell
    cases hwell
  | _ => rfl

/-- GET_STATUS is refused for its frame alone (R177, R181). -/
theorem frameAct_getStatus (check : Byte) (s : State) : frameAct (.getStatus check) s =
    if byteSum (encodeFrame (.getStatus check)) = 0 then s.getStatusRule else s.answered .badFrame (List.replicate 19 0) := by
  simp only [← frameSound_iff]
  rfl

/-- A command whose frame the part looks at follows its own rule (R177, R181). -/
theorem exec_open {c : Instr} {s : State} (hwell : c.wellFormed = true) (hterm : linkCommandTerm c = true)
    (hstatus : ∀ k, c ≠ .getStatus k) (hopen : s.linkOpen (encodeFrame c)) : exec c s = .next (ownRule c s) := by
  obtain ⟨htakes, hrunning, hsum⟩ := hopen
  have hframe : encodeFrame c ≠ [] := fun h => by rw [linkCommandTerm, h] at hterm; cases hterm
  rw [exec_taken hwell hframe htakes, frameAct_eq hterm hwell hstatus, linkAct_open hsum hrunning]

/-- No window has a number above 31 (R181). -/
theorem windowRule_of_large {b : Byte} (hlarge : 31 < b.toNat) (results : Nat) (rule : State → WindowId → State) (s : State) :
    windowRule b results rule s = s.answered .badArg (List.replicate results 0) := by
  have hnone : windowOperand b = none := dif_neg (by omega)
  rw [windowRule, hnone, State.respond_eq_answered]

/-- A command of the codes 20h to 25h names a window (R181). -/
theorem ownRule_of_large_window {c : Instr} {s : State} (hcode : (encodeFrame c).headD 0 ∈ [0x20, 0x21, 0x22, 0x23, 0x24, 0x25])
    (hwell : c.wellFormed = true) (hlarge : 31 < ((encodeFrame c).getD 1 0).toNat) :
    ownRule c s = s.answered .badArg (List.replicate (resultBytes c) 0) := by
  cases c with
  | putWindow window _ _ _ _ _ _ _ _ _ =>
    rw [ownRule, windowRule_of_large (b := window) hlarge]
    rfl
  | getWindow _ _ | enableWindow _ _ | disableWindow _ _ | reopenWindow _ _ | flushWindow _ _ =>
    exact windowRule_of_large hlarge _ _ _
  | unknownCommand code check =>
    have hunknown : code ∉ knownCodes := by simpa [Instr.wellFormed] using hwell
    have hknown : ∀ b ∈ [0x20, 0x21, 0x22, 0x23, 0x24, 0x25], b ∈ knownCodes := by decide
    exact absurd (hknown code hcode) hunknown
  | _ => simp [encodeFrame] at hcode

/-- Settles O8: the refusals come before the own rule, in their order. -/
theorem framesAreCheckedBeforeTheirRule : Obligations.FramesAreCheckedBeforeTheirRule := by
  refine ⟨fun c s hwell hterm htakes => ?_, fun s code check => ⟨fun h => ?_, fun htakes hunknown => ?_⟩,
    fun c s hwell hframe htaking hlow => ?_, fun x r => ⟨?_, ?_⟩, rfl, rfl, rfl, rfl, rfl⟩
  · have hframe : encodeFrame c ≠ [] := fun h => by rw [linkCommandTerm, h] at hterm; cases hterm
    rw [exec_taken hwell hframe htakes]
    refine ⟨fun hbad => ?_, fun hsum hclearing hstatus => ?_, fun hopen => ⟨fun w hw hcode hlarge => ?_,
      fun k check hc hlarge => ?_⟩⟩
    · by_cases hstatus : ∃ k, c = .getStatus k
      · obtain ⟨k, rfl⟩ := hstatus
        rw [frameAct_getStatus, if_neg hbad]
        rfl
      · rw [frameAct_eq hterm hwell fun k hk => hstatus ⟨k, hk⟩, linkAct_damaged hbad]
    · rw [frameAct_eq hterm hwell hstatus, linkAct_busy hsum hclearing]
    · obtain rfl : w = _ := List.mem_singleton.mp hw
      have hstatus : ∀ k, c ≠ .getStatus k := by
        rintro k rfl
        simp [encodeFrame] at hcode
      rw [frameAct_eq hterm hwell hstatus, linkAct_open hopen.2.2 hopen.2.1, ownRule_of_large_window hcode hwell hlarge]
    · subst hc
      have hnone : classOperand k = none := dif_neg (by omega)
      rw [frameAct_eq hterm hwell nofun, linkAct_open hopen.2.2 hopen.2.1]
      simp [ownRule, State.getClassRule, hnone, State.respond_eq_answered]
  · rw [exec, execFrameCut]
    split
    · next hrst =>
      obtain ⟨_, htransit, hheld⟩ := h.resolve_left (by rw [hrst]; nofun)
      rw [State.event_taking _ _ hrst htransit hheld]
      rfl
    · rfl
  · have hwell : (Instr.unknownCommand code check).wellFormed = true := by simpa [Instr.wellFormed] using hunknown
    rw [exec_taken hwell nofun htakes]
    rfl
  · obtain ⟨hrst, htransit, hheld⟩ := htaking
    rw [exec_frame hwell hframe, State.frame_discarded _ _ hrst htransit hheld hlow]
    rfl
  · exact byteSum_responseBytes x r
  · rw [responseBytes, List.dropLast_concat]

/-! ### The response on MISO -/

/-- A link that is the taken one's but for its response, which is a status byte, results and a check byte (R177). -/
def State.RespondsTo (s : State) (results : Nat) (t : State) : Prop :=
  ∃ (x : Status) (l : List Byte), l.length = results ∧ t.link = ⟨some (responseBytes x l), s.link.heldLow⟩

theorem State.respondsTo_respond {s t : State} {results : Nat} {l : List Byte} (hlink : t.link = s.link) (hlength : l.length = results)
    (x : Status) : s.RespondsTo results (t.respond x l) :=
  ⟨x, l, hlength, by rw [State.respond, hlink]; rfl⟩

theorem State.respondsTo_plain {s t : State} (hlink : t.link = s.link) (x : Status) : s.RespondsTo 0 (t.respond x []) :=
  State.respondsTo_respond hlink List.length_nil x

theorem State.statusRecord_length (s : State) : s.statusRecord.length = 19 := rfl

theorem Window.resultRecord_length (w : Window) : w.resultRecord.length = 22 := rfl

theorem NoticeClass.resultRecord_length (c : NoticeClass) (carried : Bool) : (c.resultRecord carried).length = 17 := rfl

theorem windowRule_respondsTo {s : State} {results : Nat} {rule : State → WindowId → State} (b : Byte)
    (hrule : ∀ w, s.RespondsTo results (rule s w)) : s.RespondsTo results (windowRule b results rule s) := by
  unfold windowRule
  split
  · exact State.respondsTo_respond rfl (List.length_replicate ..) _
  · exact hrule _

/-- Every own rule ends with a response of the command's length (R177, section 10.6). -/
theorem ownRule_respondsTo {c : Instr} (hterm : linkCommandTerm c = true) (hwell : c.wellFormed = true)
    (hstatus : ∀ k, c ≠ .getStatus k) (s : State) : s.RespondsTo (resultBytes c) (ownRule c s) := by
  cases c with
  | getStatus k => exact absurd rfl (hstatus k)
  | unknownCommand code check =>
    have hknown : knownCodes.contains code = true := hterm
    rw [Instr.wellFormed, hknown] at hwell
    cases hwell
  | pinReset | pinResetRelease | requestTaken _ _ _ | entryStart _ | routeWord _ | restart _ | holdExpiry _ | responseReturn _
  | portGrant | memoryResponse _ _ | noticeWriteStart | tickClose | gatherTimeout _ | snapshotTimeout _ | clearingEnd
  | frameCut => cases hterm
  | getWindow b _ => exact windowRule_respondsTo b fun w => State.respondsTo_respond rfl (Window.resultRecord_length _) _
  | putWindow b _ _ _ _ _ _ _ _ _ =>
    refine windowRule_respondsTo b fun w => ?_
    unfold State.putWindowRule
    (repeat' split) <;> exact State.respondsTo_plain rfl _
  | enableWindow b _ =>
    refine windowRule_respondsTo b fun w => ?_
    unfold State.enableRule
    (repeat' split) <;> exact State.respondsTo_plain (by simp) _
  | disableWindow b _ =>
    refine windowRule_respondsTo b fun w => ?_
    unfold State.disableRule
    split <;> exact State.respondsTo_plain (by simp) _
  | reopenWindow b _ =>
    refine windowRule_respondsTo b fun w => ?_
    unfold State.reopenRule
    split <;> exact State.respondsTo_plain (by simp) _
  | flushWindow b _ =>
    refine windowRule_respondsTo b fun w => ?_
    unfold State.flushRule
    split <;> exact State.respondsTo_plain (by simp) _
  | setTimers g h sn _ =>
    change s.RespondsTo 0 (s.setTimersRule _ _ _)
    unfold State.setTimersRule
    split <;> exact State.respondsTo_plain rfl _
  | setClock mhz _ =>
    change s.RespondsTo 0 (s.setClockRule _)
    unfold State.setClockRule
    dsimp only
    (repeat' split) <;> exact State.respondsTo_plain (by simp) _
  | setRing _ _ _ _ _ =>
    change s.RespondsTo 0 (s.setRingRule _ _)
    unfold State.setRingRule
    (repeat' split) <;> exact State.respondsTo_plain rfl _
  | setClasses _ _ _ =>
    change s.RespondsTo 0 (s.setClassesRule _ _)
    unfold State.setClassesRule
    split <;> exact State.respondsTo_plain rfl _
  | getClass k _ =>
    change s.RespondsTo 17 (s.getClassRule k)
    unfold State.getClassRule
    split
    · exact State.respondsTo_respond rfl (List.length_replicate ..) _
    · exact State.respondsTo_respond rfl (NoticeClass.resultRecord_length _ _) _
  | restartNotices _ =>
    change s.RespondsTo 0 s.restartNoticesRule
    unfold State.restartNoticesRule
    split <;> exact State.respondsTo_plain rfl _
  | setPort _ _ =>
    change s.RespondsTo 0 (s.setPortRule _)
    unfold State.setPortRule
    split <;> exact State.respondsTo_plain rfl _
  | clear _ => exact State.respondsTo_plain (t := s.clearBlocks) rfl .accepted

/-- Every frame that the link takes is answered with its command's result bytes (R176, R177). -/
theorem frameAct_respondsTo {c : Instr} (hwell : c.wellFormed = true) (hframe : encodeFrame c ≠ []) (s : State) :
    s.RespondsTo (resultBytes c) (frameAct c s) := by
  by_cases hterm : linkCommandTerm c = true
  · by_cases hstatus : ∃ k, c = .getStatus k
    · obtain ⟨k, rfl⟩ := hstatus
      rw [frameAct_getStatus]
      split
      · exact State.respondsTo_respond (t := s.setNotice _) rfl s.statusRecord_length _
      · exact State.respondsTo_respond rfl (List.length_replicate ..) _
    · have hstatus : ∀ k, c ≠ .getStatus k := fun k hk => hstatus ⟨k, hk⟩
      rw [frameAct_eq hterm hwell hstatus]
      unfold linkAct
      split
      · exact State.respondsTo_respond rfl (List.length_replicate ..) _
      · exact ownRule_respondsTo hterm hwell hstatus s
  · cases c with
    | unknownCommand code check => exact State.respondsTo_plain (t := s) rfl .badFrame
    | pinReset | pinResetRelease | requestTaken _ _ _ | entryStart _ | routeWord _ | restart _ | holdExpiry _
    | responseReturn _ | portGrant | memoryResponse _ _ | noticeWriteStart | tickClose | gatherTimeout _ | snapshotTimeout _
    | clearingEnd | frameCut => exact absurd rfl hframe
    | _ => exact absurd rfl hterm

theorem Link.miso_of_none {l : Link} (hnone : l.response = none) (command time : Nat) : l.miso command time = 0xFF := by
  rw [Link.miso, hnone]
  split <;> rfl

/-- Settles O9: the response of a frame that is taken is `frameAct_respondsTo`; a frame that meets RST_N low, or is discarded,
leaves the link without one. -/
theorem misoCarriesTheResponse : Obligations.MisoCarriesTheResponse := by
  refine ⟨fun l command time => ⟨fun htime => if_pos htime, fun hnone => Link.miso_of_none hnone _ _,
    fun r hr => ⟨fun i b hb => ?_, fun htime => ?_⟩⟩, length_responseBytes, fun c s t hwell hframe hexec => ⟨fun htakes => ?_, fun hnot => ?_⟩⟩
  · have hindex : command + 1 + i - command - 1 = i := by omega
    rw [Link.miso, if_neg (by omega), hr]
    simp only [hindex, hb, Option.getD_some]
  · have hindex : r.length ≤ time - command - 1 := by omega
    rw [Link.miso, if_neg (by omega), hr]
    simp only [List.getElem?_eq_none hindex, Option.getD_none]
  · obtain ⟨x, results, hlength, hlink⟩ := frameAct_respondsTo hwell hframe s
    rw [exec_taken hwell hframe htakes] at hexec
    obtain rfl := Host.Outcome.next.inj hexec
    exact ⟨x, results, hlength, by rw [hlink, htakes.2]⟩
  · rw [exec_frame hwell hframe] at hexec
    obtain rfl := Host.Outcome.next.inj hexec
    refine fun command time => Link.miso_of_none ?_ command time
    rcases hnot with hrst | ⟨⟨hrst, htransit, hheld⟩, hlow⟩
    · rw [State.frame_reset _ _ hrst]
      rfl
    · rw [State.frame_discarded _ _ hrst htransit hheld hlow]
      rfl

end Sys2Proof.Machine

/-! The link commands that report, and those that set the part up (R148, R168, R171, R182, R183, R190 to R192). -/

namespace Sys2Proof.Machine

/-! ### GET_STATUS -/

/-- The line and flag byte, bit by bit (R190). -/
theorem NoticeUnit.lineByte_eq (n : NoticeUnit) : n.lineByte = BitVec.ofNat 8 ((if n.ackRange then 1 else 0)
    + (if n.produced = n.consumed then 0 else 2) + match n.state with | .halted => 4 | .running => 0 | .unconfigured => 0) := by
  have hntf : n.ntfAsserted = !decide (n.produced = n.consumed) := rfl
  have hflt : n.fltAsserted = (n.state == .halted) := rfl
  rw [NoticeUnit.lineByte, hntf, hflt]
  by_cases h : n.produced = n.consumed <;> simp only [h, decide_true, decide_false, if_true, if_false] <;>
    cases n.state <;> cases n.ackRange <;> rfl

/-- GET_STATUS with a sound frame is carried out in both part states (R181, R183). -/
theorem exec_getStatus {s : State} {check : Byte} (htakes : s.linkTakes) (hsum : byteSum [0x10, check] = 0) :
    exec (.getStatus check) s
      = .next (State.answered { s with notice := { s.notice with ackRange := false } } .accepted s.statusRecord) := by
  rw [exec_taken (c := .getStatus check) rfl (List.cons_ne_nil _ _) htakes, frameAct_getStatus, if_pos (show byteSum (encodeFrame (.getStatus check)) = 0 from hsum)]
  rfl

/-- Settles O10: the record's items are read one by one, the line byte by its bits. -/
theorem getStatusReportsAndClearsAckRange : Obligations.GetStatusReportsAndClearsAckRange := by
  refine ⟨fun s check htakes hsum => ?_, ?_⟩
  · rw [exec_getStatus htakes hsum, State.statusRecord, NoticeUnit.lineByte_eq]
    rfl
  · have hrecord : State.reset.statusRecord = List.replicate 19 0 := by decide
    rw [exec_getStatus ⟨⟨rfl, rfl, rfl⟩, rfl⟩ (by decide), hrecord]
    rfl

/-! ### GET_WINDOW and GET_CLASS -/

/-- The flags byte, bit by bit (section 10.6). -/
theorem Window.flagsByte_eq (w : Window) : w.flagsByte = BitVec.ofNat 8 ((match w.kind with | .stream => 1 | .table => 0)
    + (if w.snapshots then 2 else 0) + (if w.stamps then 4 else 0) + (if w.reload then 8 else 0)) := by
  rw [Window.flagsByte]
  cases w.kind <;> cases w.snapshots <;> cases w.stamps <;> cases w.reload <;> rfl

/-- The event_enables byte, bit by bit (section 10.6). -/
theorem EventEnables.byte_eq (e : EventEnables) : e.byte = BitVec.ofNat 8 ((if e.committed then 1 else 0)
    + (if e.wrapped then 2 else 0) + (if e.snapshotExpired then 4 else 0) + (if e.refused then 8 else 0)) := by
  rw [EventEnables.byte]
  cases e.committed <;> cases e.wrapped <;> cases e.snapshotExpired <;> cases e.refused <;> rfl

/-- The flags byte of GET_CLASS, bit by bit (R192). -/
theorem classFlags_eq (window record initiator sequence masked inFlight carried : Bool) :
    (0#1 ++ bit carried ++ bit inFlight ++ bit masked ++ bit sequence ++ bit initiator ++ bit record ++ bit window : Byte)
      = BitVec.ofNat 8 ((if window then 1 else 0) + (if record then 2 else 0) + (if initiator then 4 else 0)
        + (if sequence then 8 else 0) + (if masked then 16 else 0) + (if inFlight then 32 else 0) + (if carried then 64 else 0)) := by
  revert window record initiator sequence masked inFlight carried
  decide

/-- A class number, sent as its byte, names that class (R181). -/
@[simp] theorem classOperand_ofNat (c : ClassId) : classOperand (BitVec.ofNat 8 c.val) = some c := by
  have hc : (BitVec.ofNat 8 c.val).toNat = c.val := by
    rw [BitVec.toNat_ofNat]
    exact Nat.mod_eq_of_lt (by omega)
  simp [classOperand, hc]

/-- A window command that the link carries out is the window's own rule (R181). -/
theorem windowRule_ofNat (w : WindowId) (results : Nat) (rule : State → WindowId → State) (s : State) :
    windowRule (BitVec.ofNat 8 w.val) results rule s = rule s w := by
  rw [windowRule, windowOperand_ofNat]

/-- The kinds-seen set stands in the low bits of its field (R192). -/
theorem kinds_field (v : BitVec 11) : (0#5 ++ v : BitVec 16) = v.setWidth 16 := by
  refine BitVec.eq_of_toNat_eq ((BitVec.toNat_append (0#5) v).trans ?_)
  have hv := v.isLt
  simp
  omega

/-- The class of the current write, as a number of the flags byte (R149). -/
theorem NoticeUnit.carries_eq (n : NoticeUnit) (c : ClassId) :
    (if n.carries c then 64 else 0) = match n.writer with | some v => if v.cls = c then 64 else 0 | none => 0 := by
  rw [NoticeUnit.carries]
  cases n.writer <;> simp

/-- Settles O11: both rules answer with a record, whose fields are compared one by one. -/
theorem getCommandsReturnTheirRecord : Obligations.GetCommandsReturnTheirRecord := by
  constructor
  · intro s w check b hopen
    rw [exec_open (c := .getWindow b check) rfl rfl nofun hopen]
    simp only [ownRule, b, windowRule_ofNat, State.getWindowRule, State.respond_eq_answered, Window.resultRecord,
      Window.flagsByte_eq, EventEnables.byte_eq]
    rfl
  · intro s c check b hopen
    rw [exec_open (c := .getClass b check) rfl rfl nofun hopen]
    simp only [ownRule, State.getClassRule, b, classOperand_ofNat, State.respond_eq_answered, NoticeClass.resultRecord,
      classFlags_eq, NoticeUnit.carries_eq, kinds_field]
    rcases s.notice.classes[c].first with _ | ⟨kind, window, record, initiator, sequence, time⟩
    · rfl
    · cases window <;> cases record <;> cases initiator <;> rfl

/-! ### SET_TIMERS, SET_PORT, SET_CLASSES, SET_CLOCK -/

/-- Settles O12: each command's own rule, for arguments in range and out of range. -/
theorem setCommandsTakeTheirArguments : Obligations.SetCommandsTakeTheirArguments := by
  refine ⟨fun s g h sn masked mode check => ⟨fun hopen => ?_, fun hopen => ?_, fun hopen => ?_⟩,
    fun s mhz check hopen => ⟨fun hrange => ?_, fun hrange => ?_⟩⟩
  · have hzero (v : BitVec 16) : v.toNat = 0 ↔ v = 0 := BitVec.toNat_eq (y := 0).symm
    rw [exec_open (c := .setTimers g h sn check) rfl rfl nofun hopen]
    simp only [ownRule, State.setTimersRule, hzero, State.respond_eq_answered]
    split <;> rfl
  · rw [exec_open (c := .setPort mode check) rfl rfl nofun hopen]
    simp only [ownRule, State.setPortRule, modeOperand, State.respond_eq_answered]
    by_cases hfixed : mode = 0
    · simp only [hfixed, if_true, true_or]
      rfl
    · by_cases hrotating : mode = 1
      · simp only [hrotating, if_true, or_true]
        rfl
      · simp only [hfixed, hrotating, if_false, or_false]
  · rw [exec_open (c := .setClasses mode masked check) rfl rfl nofun hopen]
    simp only [ownRule, State.setClassesRule, modeOperand, State.respond_eq_answered]
    by_cases hfixed : mode = 0
    · simp only [hfixed, if_true, true_or]
      rfl
    · by_cases hrotating : mode = 1
      · simp only [hrotating, if_true, or_true]
        rfl
      · simp only [hfixed, hrotating, if_false, or_false]
  · obtain ⟨⟨⟨hrst, htransit, hheld⟩, _⟩, _⟩ := id hopen
    refine ⟨State.closeTick { s with timeBase := { s.timeBase with declaredClock := mhz.toNat } },
      congrArg Host.Outcome.next (State.event_taking _ _ hrst htransit hheld), ?_⟩
    rw [exec_open (c := .setClock mhz check) rfl rfl nofun hopen]
    simp only [ownRule, State.setClockRule, if_neg (show ¬ (mhz.toNat < 20 ∨ 400 < mhz.toNat) by omega), State.respond_eq_answered]
    rfl
  · rw [exec_open (c := .setClock mhz check) rfl rfl nofun hopen]
    simp only [ownRule, State.setClockRule, if_pos hrange, State.respond_eq_answered]

/-! ### SET_RING -/

/-- A property of some item of a pool, in the words of the statements. -/
theorem pool_any_iff {α : Type} {k : Nat} (v : Vector α k) (p : α → Bool) :
    v.toList.any p = true ↔ ∃ i : Fin k, p v[i] = true := by
  simp only [List.any_eq_true, Vector.mem_toList_iff]
  constructor
  · rintro ⟨x, hx, hp⟩
    obtain ⟨i, hi, rfl⟩ := Vector.mem_iff_getElem.mp hx
    exact ⟨⟨i, hi⟩, hp⟩
  · rintro ⟨i, hp⟩
    exact ⟨_, Vector.getElem_mem i.isLt, hp⟩

/-- Two ranges share an address exactly when the model's comparison of their bounds says so (R26). -/
theorem rangesOverlap_iff (a aEnd b bEnd : Nat) :
    rangesOverlap a aEnd b bEnd = true ↔ ∃ x, (a ≤ x ∧ x < aEnd) ∧ b ≤ x ∧ x < bEnd := by
  simp only [rangesOverlap, Bool.and_eq_true, decide_eq_true_eq]
  constructor
  · intro h
    exact ⟨max a b, by omega⟩
  · rintro ⟨x, hx⟩
    omega

/-- A window shares an address with the ring area, or holds the ack word (R26, R146). -/
theorem Window.meetsRing_eq_false_iff (w : Window) (r : Ring) : w.meetsRing r = false
    ↔ ∀ x, w.base.toNat ≤ x → x < w.endAddress → ¬ (r.base.toNat ≤ x ∧ x < r.base.toNat + 32 * r.capacity) ∧ x ≠ r.ackWord.toNat := by
  rw [← Bool.not_eq_true, Window.meetsRing, Bool.or_eq_true, rangesOverlap_iff, ringEnd, Window.contains, Bool.and_eq_true,
    decide_eq_true_eq, decide_eq_true_eq]
  constructor
  · intro h x hlow hhigh
    refine ⟨fun hring => h (.inl ⟨x, ⟨hlow, hhigh⟩, hring⟩), fun hack => h (.inr ?_)⟩
    rw [← hack]
    exact ⟨hlow, hhigh⟩
  · rintro h (⟨x, ⟨hlow, hhigh⟩, hring⟩ | ⟨hlow, hhigh⟩)
    · exact (h x hlow hhigh).1 hring
    · exact (h _ hlow hhigh).2 rfl

/-- No window that is not OFF is in the way of the ring or the ack word (R146). -/
theorem State.windows_apart_from_ring (s : State) (r : Ring) : (s.windows.toList.any fun w => w.state != .off && w.meetsRing r) = false
    ↔ ∀ w : WindowId, s.windows[w].state ≠ .off → s.windows[w].meetsRing r = false := by
  rw [← Bool.not_eq_true, pool_any_iff]
  simp only [not_exists, Bool.and_eq_true, bne_iff_ne, not_and, Bool.not_eq_true]

/-- The argument checks of SET_RING on ring and ack word (R146). -/
theorem State.ringAllowed_iff (s : State) (r : Ring) : s.ringAllowed r = true
    ↔ r.capacity ∈ [4, 8, 16] ∧ r.base.toNat % (32 * r.capacity) = 0 ∧ r.base.toNat + 32 * r.capacity ≤ 2 ^ 40
      ∧ r.ackWord.toNat % 8 = 0 ∧ ¬ (r.base.toNat ≤ r.ackWord.toNat ∧ r.ackWord.toNat < r.base.toNat + 32 * r.capacity)
      ∧ ∀ w : WindowId, s.windows[w].state ≠ .off → s.windows[w].meetsRing r = false := by
  rw [← State.windows_apart_from_ring]
  simp only [State.ringAllowed, Bool.and_eq_true, decide_eq_true_eq, List.contains_iff_mem, Bool.not_eq_true',
    Bool.and_eq_false_iff, decide_eq_false_iff_not, not_and_or, and_assoc]
  rfl

/-- Settles O13: the answers of SET_RING's own rule in their order. -/
theorem setRingChecksThenStarts : Obligations.SetRingChecksThenStarts := by
  intro s base ack cap fault check hopen ringTop allowed
  have hexec := exec_open (c := .setRing base cap ack fault check) rfl rfl nofun hopen
  rw [hexec]
  have hallowed : allowed ↔ s.ringAllowed ⟨base, cap.toNat, ack⟩ = true ∧ fault.toNat ≤ 15 := by
    simp only [allowed, ringTop, State.ringAllowed_iff, Window.meetsRing_eq_false_iff]
    constructor
    · rintro ⟨hcap, halign, htop, hack, houtside, hfault, hapart⟩
      exact ⟨⟨hcap, halign, htop, hack, houtside, hapart⟩, hfault⟩
    · rintro ⟨⟨hcap, halign, htop, hack, houtside, hapart⟩, hfault⟩
      exact ⟨hcap, halign, htop, hack, houtside, hfault, hapart⟩
  simp only [ownRule, State.setRingRule, State.respond_eq_answered]
  refine ⟨fun hbusy => ?_, fun hempty hidle hnot => ?_, fun hempty hidle hall => ?_⟩
  · rw [if_pos (by simpa [Option.isSome_iff_ne_none] using hbusy)]
  · rw [if_neg (by simp [hempty, hidle])]
    by_cases hfault : fault.toNat < 16
    · have hring : ¬ s.ringAllowed ⟨base, cap.toNat, ack⟩ = true := fun hring => hnot (hallowed.mpr ⟨hring, by omega⟩)
      simp only [classOperand, hfault, dif_pos, if_neg hring]
    · simp only [classOperand, hfault, dif_neg, not_false_eq_true]
  · obtain ⟨hring, hfault⟩ := hallowed.mp hall
    have hfault : fault.toNat < 16 := by omega
    refine ⟨⟨fault.toNat, hfault⟩, rfl, ?_⟩
    rw [if_neg (by simp [hempty, hidle])]
    simp only [classOperand, hfault, dif_pos, if_pos hring, NoticeUnit.withRing]
    cases s.notice.state <;> rfl

end Sys2Proof.Machine

/-! The window commands (R23 to R29, R58, R60). -/

namespace Sys2Proof.Machine

/-! ### PUT_WINDOW -/

theorem legalRecordWords_iff (n : Nat) : legalRecordWords n = true ↔ n ∈ [2, 4, 8, 16, 32] := List.contains_iff_mem

theorem legalRecordCount_iff (n : Nat) : legalRecordCount n = true ↔ 1 ≤ n ∧ n ≤ 4096 := by
  rw [legalRecordCount, Bool.and_eq_true, decide_eq_true_eq, decide_eq_true_eq]

/-- Settles O15: the own rule's three answers; a class number up to 15 is an operand. -/
theorem putWindowTakesAllOrNothing : Obligations.PutWindowTakesAllOrNothing := by
  intro s w base rw flags cls ev check rc ws rs c hopen x valid
  have hexec := exec_open (c := c) rfl rfl nofun hopen
  simp only [hexec, ownRule, c, windowRule_ofNat, State.putWindowRule, State.respond_eq_answered, putOperand]
  have hchecks : (legalRecordWords rw.toNat && legalRecordCount rc.toNat && decide (base.toNat % 8 = 0)
      && decide (flags.toNat < 16) && decide (ev.toNat < 16)) = true ∧ cls.toNat < 16 ↔ valid := by
    have hcls : cls.toNat < 16 ↔ cls.toNat ≤ 15 := Nat.lt_succ_iff
    simp only [Bool.and_eq_true, legalRecordWords_iff, legalRecordCount_iff, decide_eq_true_eq, valid, hcls]
    tauto
  refine ⟨fun hstate => ?_, fun hoff hnot => ?_, fun hoff hvalid => ?_⟩
  · rw [if_pos hstate]
  · rw [if_neg (not_not.mpr hoff)]
    by_cases hcls : cls.toNat < 16
    · have hfails := fun h => hnot (hchecks.mp ⟨h, hcls⟩)
      simp only [classOperand, hcls, dif_pos, if_neg hfails]
    · simp only [classOperand, hcls, dif_neg, not_false_eq_true]
  · obtain ⟨hpass, hcls⟩ := hchecks.mpr hvalid
    refine ⟨⟨cls.toNat, hcls⟩, rfl, ?_⟩
    rw [if_neg (not_not.mpr hoff)]
    simp only [classOperand, hcls, dif_pos, if_pos hpass, enablesOperand, ← show s.windows[w].state = .off from hoff]
    rfl

/-! ### ENABLE_WINDOW -/

theorem Window.contains_iff (w : Window) (a : Addr) :
    w.contains a = true ↔ w.base.toNat ≤ a.toNat ∧ a.toNat < w.base.toNat + w.recordWords * 8 * w.recordCount := by
  rw [Window.contains, Bool.and_eq_true, decide_eq_true_eq, decide_eq_true_eq]
  rfl

theorem Window.overlaps_eq_false_iff (v w : Window) : v.overlaps w = false
    ↔ ∀ a, (w.base.toNat ≤ a ∧ a < w.endAddress) → ¬ (v.base.toNat ≤ a ∧ a < v.endAddress) := by
  rw [← Bool.not_eq_true, Window.overlaps, rangesOverlap_iff]
  exact ⟨fun h a hw hv => h ⟨a, hv, hw⟩, fun h ⟨a, hv, hw⟩ => h a hw hv⟩

/-- A window and the ring apart, in the words of R26. -/
theorem Window.apart_from_ring (w : Window) (r : Ring) : w.meetsRing r = false
    ↔ (∀ a, (w.base.toNat ≤ a ∧ a < w.endAddress) → ¬ (r.base.toNat ≤ a ∧ a < r.base.toNat + 32 * r.capacity))
      ∧ ¬ (w.base.toNat ≤ r.ackWord.toNat ∧ r.ackWord.toNat < w.endAddress) := by
  rw [Window.meetsRing_eq_false_iff]
  constructor
  · exact fun h => ⟨fun a ⟨hlow, hhigh⟩ => (h a hlow hhigh).1, fun ⟨hlow, hhigh⟩ => (h _ hlow hhigh).2 rfl⟩
  · rintro ⟨hring, hack⟩ a hlow hhigh
    exact ⟨hring a ⟨hlow, hhigh⟩, fun h => hack (h ▸ ⟨hlow, hhigh⟩)⟩

/-- The first group of R26. -/
theorem State.enableAllowed_iff (s : State) (w : WindowId) : s.enableAllowed w = true
    ↔ s.windows[w].recordWords ∈ [2, 4, 8, 16, 32] ∧ (1 ≤ s.windows[w].recordCount ∧ s.windows[w].recordCount ≤ 4096)
      ∧ s.windows[w].base.toNat % s.windows[w].recordSize = 0 ∧ s.windows[w].endAddress ≤ 2 ^ 40
      ∧ (∀ v : WindowId, v ≠ w → s.windows[v].state ≠ .off → s.windows[v].overlaps s.windows[w] = false)
      ∧ ∀ r ∈ s.notice.ring, s.windows[w].meetsRing r = false := by
  have hapart : ((List.finRange 32).all fun v => v == w || s.windows[v].state == .off || !s.windows[v].overlaps s.windows[w]) = true
      ↔ ∀ v : WindowId, v ≠ w → s.windows[v].state ≠ .off → s.windows[v].overlaps s.windows[w] = false := by
    simp only [List.all_eq_true, List.mem_finRange, true_imp_iff, Bool.or_eq_true, beq_iff_eq, Bool.not_eq_true',
      or_iff_not_imp_left, ne_eq, Classical.not_imp, and_imp]
  have hring : (!s.notice.ring.any fun r => s.windows[w].meetsRing r) = true
      ↔ ∀ r ∈ s.notice.ring, s.windows[w].meetsRing r = false := by
    cases s.notice.ring <;> simp
  rw [← hapart, ← hring, ← legalRecordWords_iff, ← legalRecordCount_iff]
  simp only [State.enableAllowed, Bool.and_eq_true, decide_eq_true_eq, and_assoc]

/-- A waiting burst that writes into the range (R26). -/
theorem DirectItem.writesInto_iff (d : DirectItem) (w : Window) : d.writesInto w = true
    ↔ ∃ a words refs, d = .passThrough (.write a words) refs ∧ ∃ i, i < words.length ∧ w.contains (a + BitVec.ofNat 40 (8 * i)) = true := by
  cases d with
  | windowRead id => simp [DirectItem.writesInto]
  | passThrough b refs =>
    cases b with
    | read _ _ => simp [DirectItem.writesInto]
    | write a words => simp [DirectItem.writesInto]

/-- A run that writes into the range (R26). -/
theorem Entry.runWritesInto_iff (e : Entry) (w : Window) : e.runWritesInto w = true
    ↔ ∃ words r, e.transfer = .write words ∧ e.run = some r ∧ r.window = none
      ∧ ∃ i, i < r.count ∧ w.contains (e.wordAddress (r.first + i)) = true := by
  unfold Entry.runWritesInto
  split
  · next words r ht hr => simp [ht, hr]
  · next hr => simp [hr]
  · next ht => simp [ht]

/-- A pass-through write into the range waits at the DIRECT requester or in a run (R26). -/
theorem State.writeWaits_iff (s : State) (w : Window) : s.writeWaits w = true
    ↔ (∃ n : Initiator, ∃ d ∈ s.port.direct[n], d.writesInto w = true) ∨ ∃ n : Initiator, ∃ e ∈ s.queues[n], e.runWritesInto w = true := by
  rw [State.writeWaits, Bool.or_eq_true, pool_any_iff, pool_any_iff]
  simp only [List.any_eq_true]

/-- Settles O16: the own rule's answers, with the model's checks in the words of R26. -/
theorem enableWindowChecksGeometry : Obligations.EnableWindowChecksGeometry := by
  intro s w check b hopen x top inRange legal handedOver inRun
  have hexec := exec_open (c := .enableWindow b check) rfl rfl nofun hopen
  have hlegal : legal ↔ s.enableAllowed w = true := by
    simp only [State.enableAllowed_iff, Window.overlaps_eq_false_iff, Window.apart_from_ring, and_assoc]
    exact Iff.rfl
  have hwaits : handedOver ∨ inRun ↔ s.writeWaits x = true := by
    simp only [State.writeWaits_iff, DirectItem.writesInto_iff, Entry.runWritesInto_iff, Window.contains_iff]
    refine or_congr ⟨?_, ?_⟩ ⟨?_, ?_⟩
    · rintro ⟨n, a, words, refs, hd, i, hi, hin⟩
      exact ⟨n, _, hd, a, words, refs, rfl, i, hi, hin⟩
    · rintro ⟨n, _, hd, a, words, refs, rfl, i, hi, hin⟩
      exact ⟨n, a, words, refs, hd, i, hi, hin⟩
    · rintro ⟨n, e, words, r, he, ht, hr, hwin, i, hi, hin⟩
      exact ⟨n, e, he, words, r, ht, hr, hwin, i, hi, hin⟩
    · rintro ⟨n, e, he, words, r, ht, hr, hwin, i, hi, hin⟩
      exact ⟨n, e, words, r, he, ht, hr, hwin, i, hi, hin⟩
  simp only [hexec, ownRule, b, windowRule_ofNat, State.enableRule, State.respond_eq_answered, Bool.not_eq_true', ← Bool.not_eq_true]
  rw [hlegal, hwaits]
  refine ⟨fun hstate => ?_, fun hoff hnot => ?_, fun hoff hall hwait => ?_, fun hoff hall hnot => ?_⟩
  · rw [if_pos hstate]
  · rw [if_neg (not_not.mpr hoff), if_pos hnot]
  · rw [if_neg (not_not.mpr hoff), if_neg (not_not.mpr hall), if_pos hwait]
  · rw [if_neg (not_not.mpr hoff), if_neg (not_not.mpr hall), if_neg hnot]
    rfl

/-! ### DISABLE_WINDOW -/

/-- A window owns a staging slot or a snapshot slot, in the words of section 2.3. -/
theorem State.ownsSlot_iff (s : State) (w : WindowId) : s.ownsSlot w = true
    ↔ (∃ i : Fin 16, ∃ r ∈ s.staging[i].target, r.window = w) ∨ ∃ i : Fin 24, ∃ j ∈ s.snapshots[i].info, j.target.window = w := by
  simp only [State.ownsSlot, Bool.or_eq_true, pool_any_iff, Option.any_eq_true, beq_iff_eq, Option.mem_def]

/-- The drain check of a DRAINING window that owns a slot, or of another, changes nothing (R29). -/
theorem State.drainCheck_of_not (s : State) (w : WindowId) (m : Moment)
    (h : s.windows[w].state ≠ .draining ∨ s.ownsSlot w = true) : s.drainCheck w m = s := by
  rw [State.drainCheck, if_neg]
  rcases h with hstate | howns
  · simp [show ¬ s.windows[w].state = .draining from hstate, -Fin.getElem_fin]
  · simp [howns]

/-- The drain check of a DRAINING window that owns no slot (R29). -/
theorem State.drainCheck_of_drained (s : State) (w : WindowId) (m : Moment) (hstate : s.windows[w].state = .draining)
    (howns : s.ownsSlot w = false) : s.drainCheck w m =
      (State.raise { s with windows := s.windows.set w { s.windows[w] with state := .off } } s.windows[w].cls
        ⟨.drained, some w, none, none, none, m.tick⟩).markRestarts (fun h => h.target.window == w) m := by
  rw [State.drainCheck, if_pos (by simp [hstate, howns, -Fin.getElem_fin])]
  have hcls : (s.updateWindow w fun x => { x with state := .off }).windows[w].cls = s.windows[w].cls := by
    simp [State.updateWindow, updatePool]
  rw [State.raiseWindow, hcls]
  rfl

/-- Settles O17: the window drains first, and the drain check that follows at once finds a slot of it or none. -/
theorem disableWindowDrains : Obligations.DisableWindowDrains := by
  intro s w check b hopen x drained owned
  have hexec := exec_open (c := .disableWindow b check) rfl rfl nofun hopen
  have hdrained : ({ x.leaveClosed with state := .draining } : Window) = drained .draining := by
    simp only [Window.leaveClosed, drained]
    split <;> rfl
  have hrule (h : x.state = .active ∨ x.state = .closed) : s.disableRule w
      = ((State.drainCheck { s with windows := s.windows.set w (drained .draining) } w s.now).respond .accepted []) := by
    have hdrains : (s.updateWindow w fun x => { x.leaveClosed with state := .draining })
        = { s with windows := s.windows.set w (drained .draining) } := by rw [← hdrained]; rfl
    rw [← hdrains, State.disableRule]
    rcases h with h | h <;> rw [show s.windows[w].state = _ from h]
  simp only [hexec, ownRule, b, windowRule_ofNat]
  have hself : ({ s with windows := s.windows.set w (drained .draining) } : State).windows[w] = drained .draining := by simp
  refine ⟨fun hoff => ?_, fun hdraining => ?_, fun hstate howned => ?_, fun hstate hnot => ?_⟩
  · rw [State.disableRule, show s.windows[w].state = _ from hoff]
    rfl
  · rw [State.disableRule, show s.windows[w].state = _ from hdraining]
    rfl
  · have howns : State.ownsSlot { s with windows := s.windows.set w (drained .draining) } w = true :=
      (State.ownsSlot_iff _ w).mpr howned
    rw [hrule hstate, State.drainCheck_of_not _ _ _ (.inr howns)]
    rfl
  · have howns : State.ownsSlot { s with windows := s.windows.set w (drained .draining) } w = false := by
      rw [← Bool.not_eq_true, State.ownsSlot_iff]
      exact hnot
    rw [hrule hstate, State.drainCheck_of_drained _ _ _ (by rw [hself]) howns, hself]
    simp only [Vector.set_set, State.respond_eq_answered]
    rfl

/-! ### FLUSH_WINDOW -/

/-- The order of record indices that FLUSH_WINDOW follows (R60). -/
abbrev recordOrder (x y : Nat × Fin 16) : Prop := x.1 ≤ y.1

/-- The model's insertion is the library's. -/
theorem insertByRecord_eq (x : Nat × Fin 16) (l : List (Nat × Fin 16)) : insertByRecord x l = l.orderedInsert recordOrder x := by
  induction l with
  | nil => rfl
  | cons y rest ih => rw [insertByRecord, List.orderedInsert, ih]

theorem foldr_insertByRecord (l : List (Nat × Fin 16)) : l.foldr insertByRecord [] = l.insertionSort recordOrder := by
  rw [show insertByRecord = List.orderedInsert recordOrder from funext fun x => funext (insertByRecord_eq x)]
  rfl

/-- The FILLING slots of a window with their record indices, in slot order. -/
def State.fillingPairs (s : State) (w : WindowId) : List (Nat × Fin 16) :=
  (List.finRange 16).filterMap fun i => (s.fillingRecord w i).map fun r => (r, i)

theorem State.fillingSlots_eq (s : State) (w : WindowId) :
    s.fillingSlots w = ((s.fillingPairs w).insertionSort recordOrder).map (·.2) := by
  rw [State.fillingSlots, foldr_insertByRecord]
  rfl

/-- A slot gathers a record of the window (R60). -/
theorem State.fillingRecord_eq_some (s : State) (w : WindowId) (i : Fin 16) (r : Nat) : s.fillingRecord w i = some r
    ↔ ∃ g t, s.staging[i] = .filling g t ∧ g.target.window = w ∧ g.target.record = r := by
  unfold State.fillingRecord
  split
  · next g t h => simp [h, -Fin.getElem_fin]
  · next h => simp [h, -Fin.getElem_fin]
  · next h => simp [h, -Fin.getElem_fin]

theorem State.mem_fillingPairs (s : State) (w : WindowId) (x : Nat × Fin 16) :
    x ∈ s.fillingPairs w ↔ s.fillingRecord w x.2 = some x.1 := by
  obtain ⟨r, i⟩ := x
  simp [State.fillingPairs]

theorem State.mem_fillingSlots (s : State) (w : WindowId) (i : Fin 16) :
    i ∈ s.fillingSlots w ↔ ∃ g t, s.staging[i] = .filling g t ∧ g.target.window = w := by
  rw [State.fillingSlots_eq, List.mem_map]
  simp only [List.mem_insertionSort, State.mem_fillingPairs, State.fillingRecord_eq_some]
  constructor
  · rintro ⟨x, ⟨g, t, h, hw, -⟩, rfl⟩
    exact ⟨g, t, h, hw⟩
  · rintro ⟨g, t, h, hw⟩
    exact ⟨(g.target.record, i), ⟨g, t, h, hw, rfl⟩, rfl⟩

theorem State.fillingSlots_nodup (s : State) (w : WindowId) : (s.fillingSlots w).Nodup := by
  rw [State.fillingSlots_eq, ((List.perm_insertionSort recordOrder (s.fillingPairs w)).map _).nodup_iff, State.fillingPairs,
    List.map_filterMap]
  refine (List.nodup_finRange 16).filterMap fun i j k hi hj => ?_
  simp only [Option.map_map, Option.mem_def, Option.map_eq_some_iff, Function.comp] at hi hj
  obtain ⟨_, _, rfl⟩ := hi
  obtain ⟨_, _, rfl⟩ := hj
  rfl

/-- The slots stand in ascending record order (R60). -/
theorem State.fillingSlots_ascending (s : State) (w : WindowId) :
    ((s.fillingSlots w).map fun i => (s.staging[i].target.map (·.record)).getD 0).Pairwise (· ≤ ·) := by
  have hsorted : ((s.fillingPairs w).insertionSort recordOrder).Pairwise recordOrder := by
    have : Std.Total recordOrder := ⟨fun x y => le_total x.1 y.1⟩
    have : IsTrans (Nat × Fin 16) recordOrder := ⟨fun x y z => le_trans⟩
    exact List.pairwise_insertionSort _ _
  rw [State.fillingSlots_eq, List.map_map, List.pairwise_map]
  refine hsorted.imp_of_mem fun {x y} hx hy hle => ?_
  have hrecord {z : Nat × Fin 16} (hz : z ∈ (s.fillingPairs w).insertionSort recordOrder) :
      (s.staging[z.2].target.map (·.record)).getD 0 = z.1 := by
    rw [List.mem_insertionSort, State.mem_fillingPairs, State.fillingRecord_eq_some] at hz
    obtain ⟨g, t, h, -, hr⟩ := hz
    rw [h, ← hr]
    rfl
  simpa only [Function.comp, hrecord hx, hrecord hy] using hle

theorem State.abandonEach_eq_foldl (s : State) (slots : List (Fin 16)) (m : Moment) :
    s.abandonEach slots m = slots.foldl (fun t i => t.abandon i m) s := by
  induction slots generalizing s with
  | nil => rfl
  | cons i rest ih => exact ih _

/-- A FILLING slot abandoned raises ABANDONED before it becomes FREE (R58). -/
theorem State.abandon_filling (t : State) (i : Fin 16) (m : Moment) {g : Gather} {timer : Timer}
    (h : t.staging[i] = .filling g timer) : t.abandon i m = (t.raise t.windows[g.target.window].cls
      ⟨.abandoned, some g.target.window, some g.target.record, some g.owner, none, m.tick⟩).freeStaging i m := by
  rw [State.abandon, h]
  rfl

/-- Settles O19: the slots are the sorted FILLING ones of the window. -/
theorem flushWindowAbandonsFillingSlots : Obligations.FlushWindowAbandonsFillingSlots := by
  intro s w check b hopen
  have hexec := exec_open (c := .flushWindow b check) rfl rfl nofun hopen
  simp only [hexec, ownRule, b, windowRule_ofNat, State.flushRule, State.respond_eq_answered]
  refine ⟨fun hoff => ?_, fun hnot => ⟨s.fillingSlots w, s.fillingSlots_nodup w, s.mem_fillingSlots w,
    s.fillingSlots_ascending w, ?_, fun i _ t g timer h => t.abandon_filling i _ h⟩⟩
  · rw [if_pos hoff]
  · rw [if_neg hnot, State.abandonEach_eq_foldl]

end Sys2Proof.Machine

/-! CLEAR (R185) and the end of CLEARING (R186). -/

namespace Sys2Proof.Machine

/-! ### CLEARING_END -/

theorem Reservation.waits_iff (x : Reservation) : (x.commitWaits = false ∧ x.loadWaits = false)
    ↔ (∃ refs, x.owner = .direct refs) ∨ x.inFlight = true := by
  unfold Reservation.commitWaits Reservation.loadWaits
  cases x.owner <;> simp

/-- What ends CLEARING, in the words of R139 and R186. -/
theorem State.settled_iff (s : State) : s.settled = true ↔ s.port.outstanding = [] ∧ (∀ n : Initiator, s.port.direct[n] = [])
    ∧ (∀ x ∈ s.interlock.table, (∃ refs, x.owner = .direct refs) ∨ x.inFlight = true) ∧ (∀ n : Initiator, s.queues[n] = [])
    ∧ s.notice.writer = none := by
  have hdirect : s.holdsBurst .direct = false ↔ ∀ n : Initiator, s.port.direct[n] = [] := by
    rw [← Bool.not_eq_true, State.holdsBurst, pool_any_iff]
    simp [-Fin.getElem_fin]
  have htable : (s.holdsBurst .commit = false ∧ s.holdsBurst .load = false)
      ↔ ∀ x ∈ s.interlock.table, (∃ refs, x.owner = .direct refs) ∨ x.inFlight = true := by
    simp only [← Reservation.waits_iff, State.holdsBurst, List.any_eq_false, Bool.not_eq_true]
    exact ⟨fun ⟨hc, hl⟩ x hx => ⟨hc x hx, hl x hx⟩, fun h => ⟨fun x hx => (h x hx).1, fun x hx => (h x hx).2⟩⟩
  have hqueues : (s.queues.toList.all fun q => q.isEmpty) = true ↔ ∀ n : Initiator, s.queues[n] = [] := by
    rw [← Bool.not_eq_false, List.all_eq_not_any_not, Bool.not_eq_false', pool_any_iff]
    simp [-Fin.getElem_fin]
  have hnotice : s.notice.writer = none → s.holdsBurst .notice = false := fun h => by simp [State.holdsBurst, h]
  rw [← hdirect, ← htable, ← hqueues]
  simp only [State.settled, State.portQuiet, MemoryPort.startRotation, List.all_cons, List.all_nil, Bool.and_eq_true,
    Bool.not_eq_true', List.isEmpty_iff, Option.isNone_iff_eq_none, and_true]
  tauto

/-- Settles O52: the act is to return to RUNNING exactly when the part is settled. -/
theorem clearingEndsWhenQuiet : Obligations.ClearingEndsWhenQuiet := by
  intro s htaking quiet
  obtain ⟨hrst, htransit, hheld⟩ := htaking
  have hquiet : quiet ↔ s.settled = true := s.settled_iff.symm
  rw [hquiet, exec, execClearingEnd, State.eventLast_taking _ _ hrst htransit hheld]
  refine ⟨fun hclearing hsettled => ?_, fun hnot => ?_⟩
  · rw [if_pos ⟨hclearing, hsettled⟩]
    rfl
  · rw [if_neg]
    rintro ⟨hclearing, hsettled⟩
    rcases hnot with hrunning | hunsettled
    · rw [hrunning] at hclearing
      cases hclearing
    · exact hunsettled hsettled

/-! ### CLEAR -/

/-- The commit of a COMMITTING slot has issued its first burst (R64, R65). -/
theorem State.commitIssued_iff {s : State} {i : Fin 16} {g : Gather} {info : CommitInfo} (h : s.staging[i] = .committing g info) :
    s.commitIssued i = true
      ↔ info.sequence ≠ none ∧ ∃ x ∈ s.interlock.table, x.owner = .commit i ∧ x.records = [g.target] ∧ x.firstIssued = true := by
  simp only [State.commitIssued, h, Bool.and_eq_true, Option.isSome_iff_ne_none, List.any_eq_true, beq_iff_eq, and_assoc]

/-- The words that CLEAR leaves pending (R17). -/
theorem State.mem_issuedWords (s : State) (ref : WordRef) : ref ∈ s.issuedWords ↔
    (∃ x ∈ s.port.outstanding, ∃ refs, x.owner = .words refs ∧ ref ∈ refs)
      ∨ (∃ x ∈ s.port.outstanding, ∃ id y refs, x.owner = .reservation id ∧ s.reservation id = some y ∧ y.owner = .direct refs ∧ ref ∈ refs)
      ∨ ∃ (j : Fin 16) (g : Gather) (info : CommitInfo), s.staging[j] = .committing g info ∧ info.completing = ref
          ∧ info.sequence ≠ none
          ∧ ∃ x ∈ s.interlock.table, x.owner = .commit j ∧ x.records = [g.target] ∧ x.firstIssued = true := by
  have hserved (x : Outstanding) : ref ∈ s.wordsOf x ↔ (∃ refs, x.owner = .words refs ∧ ref ∈ refs)
      ∨ ∃ id y refs, x.owner = .reservation id ∧ s.reservation id = some y ∧ y.owner = .direct refs ∧ ref ∈ refs := by
    unfold State.wordsOf
    cases howner : x.owner with
    | words refs => simp
    | noticeWriter => simp
    | reservation id =>
      cases hres : s.reservation id with
      | none => simp [hres]
      | some y => cases hy : y.owner <;> simp [hres, hy, Reservation.words]
  have hcompleting (j : Fin 16) : ref ∈ s.issuedCompleting j ↔ ∃ (g : Gather) (info : CommitInfo), s.staging[j] = .committing g info
      ∧ info.completing = ref ∧ info.sequence ≠ none
      ∧ ∃ x ∈ s.interlock.table, x.owner = .commit j ∧ x.records = [g.target] ∧ x.firstIssued = true := by
    unfold State.issuedCompleting
    split
    · next g info h =>
      have hissued := State.commitIssued_iff h
      by_cases hc : s.commitIssued j = true
      · rw [if_pos hc, List.mem_singleton]
        constructor
        · exact fun href => ⟨g, info, h, href.symm, hissued.mp hc⟩
        · rintro ⟨g', info', h', href, -⟩
          rw [h] at h'
          cases h'
          exact href.symm
      · rw [if_neg hc]
        constructor
        · exact fun href => absurd href List.not_mem_nil
        · rintro ⟨g', info', h', -, hyes⟩
          rw [h] at h'
          cases h'
          exact absurd (hissued.mpr hyes) hc
    · next h => simp [h, -Fin.getElem_fin]
    · next h => simp [h, -Fin.getElem_fin]
  simp only [State.issuedWords, List.mem_append, List.mem_flatMap, hserved, hcompleting, List.mem_finRange, true_and,
    and_or_left, exists_or, or_assoc]

/-- The reservations that CLEAR keeps, loads without their slot (R85, R110). -/
theorem filterMap_clear (l : List Reservation) : l.filterMap Reservation.clear =
    (l.filter fun x => match x.owner with
      | .commit _ => x.firstIssued
      | .load _ => x.inFlight
      | .direct _ => x.inFlight).map fun x => { x with owner := match x.owner with
      | .load _ => .load none
      | .commit i => .commit i
      | .direct refs => .direct refs } := by
  induction l with
  | nil => rfl
  | cons x rest ih =>
    rw [List.filterMap_cons, List.filter_cons, ih, Reservation.clear]
    cases x with
    | mk id owner records inFlight firstIssued burst =>
      cases owner with
      | commit slot => cases firstIssued <;> rfl
      | load slot => cases inFlight <;> rfl
      | direct refs => cases inFlight <;> rfl

/-- A staging slot across CLEAR: a commit whose first burst has been issued runs on (R63, R64, R65). -/
theorem State.clear_staging (s : State) (i : Fin 16) :
    ((∃ g info, s.staging[i] = .committing g info ∧ s.commitIssued i = true) → s.clearBlocks.staging[i] = s.staging[i])
      ∧ ((∀ g info, s.staging[i] = .committing g info → ¬ s.commitIssued i = true) → s.clearBlocks.staging[i] = .free) := by
  have hslot : s.clearBlocks.staging[i] = s.staging[i].clear (s.commitIssued i) := by
    simp [State.clearBlocks]
  rw [hslot]
  constructor
  · rintro ⟨g, info, h, hissued⟩
    rw [h, hissued]
    rfl
  · intro h
    cases hx : s.staging[i] with
    | committing g info =>
      have hissued : s.commitIssued i = false := by simpa using h g info hx
      rw [hissued]
      rfl
    | free => rfl
    | filling g timer => rfl

/-- An entry across CLEAR that was not DONE (R17). -/
theorem Entry.clear_of_not_done {e : Entry} (h : e.state ≠ .done) (n : Initiator) (issued : List WordRef) :
    e.clear n issued = Entry.settle { e with
      outcomes := e.outcomes.zipIdx.map fun x => x.1.clear (issued.contains ⟨n, e.tag, x.2⟩)
      position := e.transfer.length, run := none, state := .inProgress } := by
  rw [Entry.clear, if_neg h]

/-- Settling, in one term. -/
theorem Entry.settle_eq (e : Entry) : e.settle = { e with state := if e.outcomes.all (·.coded) then .done else e.state } := by
  unfold Entry.settle
  split <;> rfl

/-- The outcomes of an entry across CLEAR: a code stays, a pending word stays pending when its operation has been issued, any
other word is ABORTED (R17). -/
theorem clear_outcome {outcomes : List WordOutcome} {i : Nat} {o : WordOutcome} (h : outcomes[i]? = some o) (f : Nat → Bool) :
    (outcomes.zipIdx.map fun x => x.1.clear (f x.2))[i]? = some (o.clear (f i)) := by
  simp [List.getElem?_zipIdx, h]

/-- Settles O51: CLEAR's own rule block by block. -/
theorem clearSettlesEveryBlock : Obligations.ClearSettlesEveryBlock := by
  intro s check hopen
  have hexec := exec_open (c := .clear check) rfl rfl nofun hopen
  have hlow : s.link.heldLow = false := hopen.1.2
  have hqueue (n : Initiator) : (s.clearBlocks.respond .accepted []).queues[n] = s.queues[n].map fun e => e.clear n s.issuedWords := by
    simp [State.clearBlocks]
  refine ⟨s.clearBlocks.respond .accepted [], hexec, ?_, fun w => ?_, fun i => ⟨?_, fun hnot => ?_⟩, filterMap_clear _,
    fun n => ⟨by rw [hqueue, List.length_map], fun k e he => ⟨fun hdone => ?_, fun hnot => ?_⟩⟩⟩
  · rw [← hlow]
    rfl
  · change (mapPool s.windows Window.clear)[w] = _
    rw [Fin.getElem_fin, getElem_mapPool]
    simp only [Window.clear, Window.leaveClosed, Fin.getElem_fin]
    split <;> rfl
  · rintro ⟨g, info, h, hissued⟩
    exact (s.clear_staging i).1 ⟨g, info, h, (State.commitIssued_iff h).mpr hissued⟩
  · exact (s.clear_staging i).2 fun g info h hissued => hnot g info h ((State.commitIssued_iff h).mp hissued)
  · rw [hqueue, List.getElem?_map, he, Option.map_some, Entry.clear, if_pos hdone]
  · refine ⟨e.outcomes.zipIdx.map fun x => x.1.clear (s.issuedWords.contains ⟨n, e.tag, x.2⟩), ?_, by simp, fun i o ho => ?_⟩
    · rw [hqueue, List.getElem?_map, he, Option.map_some, Entry.clear_of_not_done hnot, Entry.settle_eq]
    · rw [clear_outcome ho fun i => s.issuedWords.contains ⟨n, e.tag, i⟩]
      refine ⟨?_, ?_, ?_, ?_⟩
      · rintro ⟨c, d, rfl⟩
        rfl
      · rintro rfl
        rfl
      · rintro rfl hissued
        rw [List.contains_iff_mem.mpr ((s.mem_issuedWords _).mpr hissued)]
        rfl
      · rintro rfl hnot
        rw [Bool.eq_false_iff.mpr fun h => hnot ((s.mem_issuedWords _).mp (List.contains_iff_mem.mp h))]
        rfl

end Sys2Proof.Machine

/-! The initiator port: requests, starts, expiries and responses (chapter 1). -/

namespace Sys2Proof.Machine

/-- With nothing in transit a command of the part is its act (log 8). -/
theorem State.event_of_taking {s : State} (htaking : s.taking) (act : State → State) : s.event act = act s := by
  obtain ⟨hrst, htransit, hheld⟩ := htaking
  exact State.event_taking s act hrst htransit hheld

/-! ### Requests -/

theorem State.ready_iff (s : State) (n : Initiator) :
    s.ready n = true ↔ s.rstN = true ∧ s.partState = .running ∧ s.queues[n].length < 4 := by
  simp only [State.ready, Bool.and_eq_true, beq_iff_eq, decide_eq_true_eq, and_assoc]

/-- Settles O20: the request joins under the free tag, DONE at once when it crosses a boundary. -/
theorem requestsJoinTheirQueue : Obligations.RequestsJoinTheirQueue := by
  intro s n a x hlow hhigh halign
  have hwell : (Instr.requestTaken n a x).wellFormed = true := by
    simp [Instr.wellFormed, requestWellFormed, hlow, hhigh, halign]
  have hexec := exec_event (s := s) hwell rfl nofun nofun nofun nofun nofun
  refine ⟨fun htaking hrunning hroom => ?_, fun hnot => ?_⟩
  · refine ⟨freeTag s.queues[n], freeTag_fresh hroom, ?_⟩
    have hready : s.ready n = true := (s.ready_iff n).mpr ⟨htaking.1, hrunning, hroom⟩
    intro entry joined
    rw [hexec, State.event_of_taking htaking]
    simp only [eventAct, if_pos hready, State.takeRequest]
    have hcross : crossesBoundary a x.length = true ↔ ¬ a.toNat % 64 / 8 + x.length ≤ 8 := by
      rw [crossesBoundary, decide_eq_true_eq, blockPosition, not_le]
    by_cases hin : a.toNat % 64 / 8 + x.length ≤ 8
    · have hstays : ¬ crossesBoundary a x.length = true := fun h => hcross.mp h hin
      rw [if_neg hstays, if_pos hin]
      simp only [newEntry, if_neg hstays]
      rfl
    · rw [if_pos (hcross.mpr hin), if_neg hin]
      simp only [newEntry, if_pos (hcross.mpr hin)]
      rfl
  · rw [hexec]
    rcases hnot with hrst | ⟨htaking, hnot⟩
    · rw [State.event_reset _ _ hrst]
    · have hready : ¬ s.ready n = true := by
        rw [State.ready_iff]
        rintro ⟨-, hrunning, hroom⟩
        rcases hnot with hclearing | hfull
        · rw [hrunning] at hclearing
          cases hclearing
        · omega
      rw [State.event_of_taking htaking]
      simp only [eventAct, if_neg hready]

/-! ### Starts -/

/-- The starting passes over entries that let the next one start (R3). -/
theorem startOldest_append {older : List Entry} (l : List Entry)
    (holder : ∀ x ∈ older, x.state = .done ∨ (x.state = .inProgress ∧ x.position = x.transfer.length)) :
    startOldest (older ++ l) = older ++ startOldest l := by
  induction older with
  | nil => rfl
  | cons x rest ih =>
    have hx := holder x (by simp)
    have hwaiting : ¬ x.state = .waiting := by rcases hx with h | ⟨h, -⟩ <;> simp [h]
    have hlets : x.letsNextStart = true := by
      rcases hx with h | ⟨h, hp⟩ <;> simp [Entry.letsNextStart, Entry.routed, *]
    rw [List.cons_append, startOldest, if_neg hwaiting, if_pos hlets, ih fun y hy => holder y (by simp [hy])]
    rfl

/-- An entry that is HELD or still routing keeps the younger ones from starting (R3). -/
theorem startOldest_stays {e : Entry} (younger : List Entry)
    (h : (∃ k, e.state = .held k) ∨ (e.state = .inProgress ∧ e.position ≠ e.transfer.length)) :
    startOldest (e :: younger) = e :: younger := by
  have hwaiting : ¬ e.state = .waiting := by rcases h with ⟨k, h⟩ | ⟨h, -⟩ <;> simp [h]
  have hlets : ¬ e.letsNextStart = true := by
    rcases h with ⟨k, h⟩ | ⟨h, hp⟩ <;> simp [Entry.letsNextStart, Entry.routed, *]
  rw [startOldest, if_neg hwaiting, if_neg hlets]

theorem startAtClose_none {older : List Entry} (t : Tick) (h : ∀ x ∈ older, x.state ≠ .waiting) : startAtClose t older = older := by
  induction older with
  | nil => rfl
  | cons x rest ih => rw [startAtClose, if_neg (h x (by simp)), ih fun y hy => h y (by simp [hy])]

/-- Settles O21: the starting passes over the older entries and starts, or stops at, the one after them. -/
theorem oldestWaitingEntryStarts : Obligations.OldestWaitingEntryStarts := by
  refine ⟨fun s n older younger e htaking hqueue holder => ?_, fun s n m => rfl,
    fun t older younger e holder => ⟨startAtClose_none t holder, fun he => startAtClose_layout t holder he⟩,
    fun e m => ?_, fun s => rfl⟩
  · have hexec : exec (.entryStart n) s = .next { s with queues := s.queues.set n (older ++ startOldest (e :: younger)) } := by
      rw [exec, execEntryStart, State.event_of_taking htaking, updatePool, hqueue, startOldest_append _ holder]
      rfl
    rw [hexec]
    refine ⟨fun hwaiting => ?_, fun hstays => ?_⟩
    · rw [startOldest, if_pos hwaiting]
      rfl
    · rw [startOldest_stays _ hstays, ← hqueue]
      simp
  · cases hclosing : e.closing with
    | none => simp only [Entry.moment, hclosing, Moment.orClosing]
    | some tick => simp only [Entry.moment, hclosing, Moment.orClosing]

/-! ### Hold expiries -/

/-- The unrouted words are answered, the others keep their outcomes (R12, R17). -/
theorem Entry.abandonUnrouted_eq (e : Entry) (code : Code) : e.abandonUnrouted code = { e with
    outcomes := e.outcomes.map fun o => if o = .unknown then .answered code 0 else o
    position := e.transfer.length
    state := if (e.outcomes.map fun o => if o = .unknown then .answered code 0 else o).all (·.coded) then .done else .inProgress } := by
  rw [Entry.abandonUnrouted, Entry.settle_eq]

theorem Entry.hold_eq_none {e : Entry} (h : ∀ k, e.state ≠ .held k) : e.hold = none := by
  unfold Entry.hold
  split
  · next k hk => exact absurd hk (h k)
  · rfl
  · rfl
  · rfl

/-- Settles O22: the queue's HELD entry is found, and its timer asked. -/
theorem holdExpiryAnswersTheRest : Obligations.HoldExpiryAnswersTheRest := by
  intro s n older younger e h htaking hqueue holder hheld
  have hfound : s.queues[n].find? (fun e => e.hold.isSome) = some e :=
    State.heldEntry_layout hqueue (fun x hx => Entry.hold_eq_none (holder x hx)) hheld
  have hhold : e.hold = some h := by simp [Entry.hold, hheld]
  have hexec : exec (.holdExpiry n) s = .next (s.holdTimeout n) := congrArg Host.Outcome.next (State.event_of_taking htaking _)
  rw [hexec, State.holdTimeout, hfound]
  simp only [hhold]
  refine ⟨fun closing hexpired => ?_, fun hrunning => by rw [hrunning]⟩
  simp only [hexpired]
  rw [State.expireHold, State.updateEntry_layout hqueue, Entry.abandonUnrouted_eq]
  rfl

/-! ### Responses -/

theorem Code.badness_worse (a b : Code) : (Code.worse a b).badness = max a.badness b.badness := by
  unfold Code.worse
  split <;> omega

/-- The code of a response is at least as bad as every word's (R13). -/
theorem badness_le_foldr_worse (l : List WordOutcome) {c : Code} {d : Word} (h : .answered c d ∈ l) :
    c.badness ≤ (l.foldr (fun o c => Code.worse o.code c) .ok).badness := by
  induction l with
  | nil => cases h
  | cons o rest ih =>
    rw [List.foldr_cons, Code.badness_worse]
    rcases List.mem_cons.mp h with rfl | h
    · exact le_max_left _ _
    · exact (ih h).trans (le_max_right _ _)

/-- It is OK or some word's (R13). -/
theorem foldr_worse_mem (l : List WordOutcome) : (l.foldr (fun o c => Code.worse o.code c) .ok) = .ok
    ∨ ∃ d, .answered (l.foldr (fun o c => Code.worse o.code c) .ok) d ∈ l := by
  induction l with
  | nil => exact .inl rfl
  | cons o rest ih =>
    rw [List.foldr_cons]
    generalize rest.foldr (fun o c => Code.worse o.code c) .ok = worst at ih
    rw [Code.worse]
    split
    · rcases ih with h | ⟨d, h⟩
      · exact .inl h
      · exact .inr ⟨d, List.mem_cons_of_mem _ h⟩
    · cases o with
      | answered c d => exact .inr ⟨d, List.mem_cons_self⟩
      | unknown => exact .inl rfl
      | pending => exact .inl rfl

/-- A sound outcome carries data only with OK (R16). -/
theorem WordOutcome.dataWord_eq {o : WordOutcome} (h : o.dataLawful = true) :
    o.dataWord = match (generalizing := false) o with | .answered c d => if c = .ok then d else 0 | .unknown => 0 | .pending => 0 := by
  cases o with
  | unknown => rfl
  | pending => rfl
  | answered c d =>
    by_cases hc : c = .ok
    · simp [WordOutcome.dataWord, hc]
    · simpa [WordOutcome.dataLawful, WordOutcome.dataWord, hc] using h

/-- Settles O23: the head leaves with the worst code among its words and, for a READ, their data. -/
theorem responsesLeaveInOrder : Obligations.ResponsesLeaveInOrder := by
  refine ⟨fun s n e rest htaking hsound hqueue => ?_, fun c d => rfl, rfl⟩
  have hexec : exec (.responseReturn n) s = .next (if e.state = .done then
      (s.setQueues (s.queues.set n rest)).setLastResponse (some (e.response n)) else s) := by
    rw [exec, execResponseReturn, State.event_of_taking htaking, State.returnHead, hqueue]
  rw [hexec]
  refine ⟨fun hdone => ⟨e.responseCode, fun c d => badness_le_foldr_worse _, foldr_worse_mem _, ?_⟩, fun hnot => by rw [if_neg hnot]⟩
  obtain ⟨-, -, hlawful⟩ := hsound n
  have hdata : e.outcomes.map (·.dataWord) = e.outcomes.map fun o =>
      match o with | .answered c d => if c = .ok then d else 0 | .unknown => 0 | .pending => 0 :=
    List.map_congr_left fun o ho => WordOutcome.dataWord_eq (hlawful e (by rw [hqueue]; exact List.mem_cons_self) o ho)
  rw [if_pos hdone, Entry.response, hdata]
  rfl

/-! ### Addresses -/

theorem Window.endAddress_eq (x : Window) : x.endAddress = x.base.toNat + 8 * x.recordWords * x.recordCount := by
  rw [Window.endAddress, Window.size, Window.recordSize, Nat.mul_comm 8]

/-- An address in a window that is not OFF, the windows being apart, lies in no other one (R21, R26). -/
theorem State.matchWindow_of_contains {s : State} {a : Addr} (hapart : s.windowsApart) {w : WindowId} (hstate : s.windows[w].state ≠ .off)
    (hin : s.windows[w].contains a = true) : s.matchWindow a = some w := by
  refine findPool_eq_some.mpr ⟨by simp [hstate, hin, -Fin.getElem_fin], fun v hv => ?_⟩
  by_contra hfound
  simp only [Bool.not_eq_false, Bool.and_eq_true, bne_iff_ne] at hfound
  obtain ⟨hother, hboth⟩ := hfound
  have hoverlap : s.windows[v].overlaps s.windows[w] = true := by
    simp only [Window.contains, Bool.and_eq_true, decide_eq_true_eq] at hin hboth
    exact (rangesOverlap_iff _ _ _ _).mpr ⟨a.toNat, hboth, hin⟩
  rw [hapart.1 v w (ne_of_lt hv) hother hstate] at hoverlap
  cases hoverlap

/-- The address of record r at word offset o, below the end of the address space (R20). -/
theorem Window.wordAddress_toNat {x : Window} {r o : Nat} (hr : r < x.recordCount) (ho : o < x.recordWords)
    (htop : x.base.toNat + 8 * x.recordWords * x.recordCount ≤ 2 ^ 40) :
    (BitVec.ofNat 40 (x.base.toNat + r * (8 * x.recordWords) + 8 * o) : Addr).toNat
        = x.base.toNat + r * (8 * x.recordWords) + 8 * o
      ∧ x.base.toNat + r * (8 * x.recordWords) + 8 * o < x.base.toNat + 8 * x.recordWords * x.recordCount := by
  have hsize : (r + 1) * (8 * x.recordWords) ≤ x.recordCount * (8 * x.recordWords) := Nat.mul_le_mul_right _ hr
  rw [Nat.add_mul, Nat.mul_comm x.recordCount] at hsize
  have hbelow : x.base.toNat + r * (8 * x.recordWords) + 8 * o < x.base.toNat + 8 * x.recordWords * x.recordCount := by omega
  exact ⟨by rw [BitVec.toNat_ofNat]; exact Nat.mod_eq_of_lt (by omega), hbelow⟩

/-- Settles O24: the matcher answers the window that holds the address; record and offset are quotient and remainder. -/
theorem addressesAreMatched : Obligations.AddressesAreMatched := by
  refine ⟨fun s a hapart => ⟨fun w hstate hlow hhigh => ?_, fun hnone => ?_⟩, fun e i => rfl, fun x r o hr ho htop => ?_⟩
  · refine State.matchWindow_of_contains hapart hstate ?_
    simp [Window.contains, Window.endAddress_eq, hlow, hhigh, -Fin.getElem_fin]
  · refine findPool_eq_none.mpr fun w => ?_
    by_contra hfound
    simp only [Bool.not_eq_false, Bool.and_eq_true, bne_iff_ne, Window.contains, decide_eq_true_eq, Window.endAddress_eq] at hfound
    exact hnone w hfound.1 hfound.2
  · intro a
    obtain ⟨ha, hbelow⟩ := Window.wordAddress_toNat hr ho htop
    replace ha : a.toNat = x.base.toNat + r * (8 * x.recordWords) + 8 * o := ha
    have hlead := (Window.wordAddress_toNat (o := 0) hr (by omega) htop).1
    have hsub : a.toNat - x.base.toNat = 8 * o + x.recordSize * r := by
      rw [ha, Window.recordSize, Nat.mul_comm x.recordWords, Nat.mul_comm r]
      omega
    have hsmall : 8 * o < x.recordSize := by
      rw [Window.recordSize]
      omega
    refine ⟨?_, ?_, ?_, ?_⟩
    · simp only [Window.contains, Bool.and_eq_true, decide_eq_true_eq, Window.endAddress_eq, ha]
      omega
    · rw [Window.recordOf, hsub, Nat.add_mul_div_left _ _ (by omega), Nat.div_eq_of_lt hsmall, Nat.zero_add]
    · rw [Window.offsetOf, hsub, Nat.add_mul_mod_self_left, Nat.mod_eq_of_lt hsmall]
      omega
    · rw [Window.leadAddress, Window.recordSize, Nat.mul_comm x.recordWords]
      exact hlead

end Sys2Proof.Machine

/-! The routing of a word: its path from the window and the slots, and what ROUTE_WORD makes of it (chapters 1 to 5). -/

namespace Sys2Proof.Machine

variable {s t : State} {n : Initiator} {older younger : List Entry} {e e' : Entry} {w : WindowId} {r : RecordId}

/-! ### The path of a word whose window is known -/

theorem State.routePath_read (hmatch : s.matchWindow (e.wordAddress e.position) = some w) {k : Nat} (htransfer : e.transfer = .read k) :
    s.routePath n e = if s.windows[w].readerSet.getLsbD n.val = true
      then s.readPath n ⟨w, s.windows[w].recordOf (e.wordAddress e.position)⟩ (s.windows[w].offsetOf (e.wordAddress e.position))
      else .refused ⟨w, s.windows[w].recordOf (e.wordAddress e.position)⟩ := by
  unfold State.routePath
  dsimp only
  rw [hmatch, htransfer]
  rfl

theorem State.routePath_write (hmatch : s.matchWindow (e.wordAddress e.position) = some w) {ws : List WriteWord} {word : WriteWord}
    (htransfer : e.transfer = .write ws) (hword : ws[e.position]? = some word) :
    s.routePath n e = if s.windows[w].refusesWrite n word.lanes (s.windows[w].recordOf (e.wordAddress e.position))
          (s.windows[w].offsetOf (e.wordAddress e.position)) = true
      then .refused ⟨w, s.windows[w].recordOf (e.wordAddress e.position)⟩
      else s.writePath n ⟨w, s.windows[w].recordOf (e.wordAddress e.position)⟩ (s.windows[w].offsetOf (e.wordAddress e.position)) word.data := by
  unfold State.routePath
  dsimp only
  rw [hmatch, htransfer]
  simp only [hword]

/-- The access checks on a WRITE word (R32). -/
theorem Window.refusesWrite_iff (x : Window) (n : Initiator) (lanes : Byte) (record offset : Nat) :
    x.refusesWrite n lanes record offset = true ↔ x.writerSet.getLsbD n.val = false ∨ lanes ≠ 0xFF
      ∨ (x.stamps = true ∧ offset + 1 = x.recordWords) ∨ x.state = .closed ∨ (x.kind = .stream ∧ record ≠ x.cursor) := by
  simp only [Window.refusesWrite, memberOf, Bool.or_eq_true, Bool.not_eq_true', Bool.and_eq_true, bne_iff_ne, beq_iff_eq, or_assoc]

/-- A write that has passed the access checks (R32). -/
theorem State.writeAdmitted.path {o : Nat} {d : Word} (h : s.writeAdmitted n e r o d) : s.routePath n e = s.writePath n r o d := by
  obtain ⟨hmatch, hrecord, hoffset, ⟨ws, htransfer, hword⟩, hmember, hstamp, hclosed, hcursor⟩ := h
  rw [State.routePath_write hmatch htransfer hword, if_neg, ← hrecord, ← hoffset]
  rw [Window.refusesWrite_iff, ← hrecord, ← hoffset]
  rintro (hnot | hlanes | hlast | hstate | ⟨hstream, hrec⟩)
  · rw [hmember] at hnot
    cases hnot
  · exact hlanes rfl
  · exact hstamp hlast
  · exact hclosed hstate
  · exact hrec (hcursor hstream)

/-- A read that goes to the snapshot unit (R22). -/
theorem State.snapshotRead.path {o : Nat} (h : s.snapshotRead n e r o) : s.routePath n e = s.readPath n r o := by
  obtain ⟨hmatch, hrecord, hoffset, ⟨k, htransfer⟩, hmember, -⟩ := h
  rw [State.routePath_read hmatch htransfer, if_pos hmember, ← hrecord, ← hoffset]

/-! ### ROUTE_WORD of an entry without a run -/

/-- The word's path is followed; the last word of a request lets the next entry start (R4, R3). -/
theorem exec_routeWord_acts (h : s.routesNext n older e younger) (hrun : e.run = none) (htag : e'.tag = e.tag) (hrun' : e'.run = none)
    (htransfer : e'.transfer = e.transfer) (hposition : e'.position = e.position + 1)
    (hfollow : s.follow ⟨n, e.tag, e.position⟩ (s.routePath n e) (e.moment s.now) = t)
    {older' younger' : List Entry} (his : t.queueIs n older' e' younger') :
    exec (.routeWord n) s = .next (if e.position + 1 = e.transfer.length then t.passClosing n (e.moment s.now) else t) := by
  have hrouted : e'.routed = true ↔ e.position + 1 = e.transfer.length := by
    rw [Entry.routed, beq_iff_eq, hposition, htransfer]
  rw [exec, execRouteWord_layout h, State.routeEntry_without_run hrun, hfollow, ← htag, State.endRouting_without_run his hrun']
  simp only [hrouted]

/-- So it is when the path changes the entry alone of its queue. -/
theorem exec_routeWord_next (h : s.routesNext n older e younger) (hrun : e.run = none) (htag : e'.tag = e.tag) (hrun' : e'.run = none)
    (htransfer : e'.transfer = e.transfer) (hposition : e'.position = e.position + 1)
    (hfollow : s.follow ⟨n, e.tag, e.position⟩ (s.routePath n e) (e.moment s.now) = t)
    (hqueue : t.queues[n] = older ++ e' :: younger) :
    exec (.routeWord n) s = .next (if e.position + 1 = e.transfer.length then t.passClosing n (e.moment s.now) else t) :=
  exec_routeWord_acts h hrun htag hrun' htransfer hposition hfollow ⟨hqueue, fun x hx => htag ▸ h.2.1.2 x hx⟩

/-- A word that holds leaves its entry where it was (R9). -/
theorem exec_routeWord_stays (h : s.routesNext n older e younger) (hrun : e.run = none) (htag : e'.tag = e.tag) (hrun' : e'.run = none)
    (htransfer : e'.transfer = e.transfer) (hposition : e'.position = e.position)
    (hfollow : s.follow ⟨n, e.tag, e.position⟩ (s.routePath n e) (e.moment s.now) = t)
    (hqueue : t.queues[n] = older ++ e' :: younger) : exec (.routeWord n) s = .next t := by
  have his : t.queueIs n older e' younger := ⟨hqueue, fun x hx => htag ▸ h.2.1.2 x hx⟩
  have hrouted : ¬ e'.routed = true := by
    rw [Entry.routed, beq_iff_eq, hposition, htransfer]
    exact ne_of_lt h.2.2.2.2
  rw [exec, execRouteWord_layout h, State.routeEntry_without_run hrun, hfollow, ← htag, State.endRouting_without_run his hrun',
    if_neg hrouted]

/-- The entry across the settling of its word (R4, R13). -/
theorem Entry.settleWord_eq (e : Entry) (code : Code) (data : Word) : e.settleWord code data = { e with
    outcomes := e.outcomes.set e.position (answeredWith code data), position := e.position + 1
    state := if (e.outcomes.set e.position (answeredWith code data)).all (·.coded) then .done else .inProgress } := by
  rw [Entry.settleWord, Entry.settle_eq]

/-- The entry across a word that becomes pending, routing on (R4). -/
theorem Entry.pendWord_eq (hstate : e.state = .inProgress) :
    e.pendWord = { e with outcomes := e.outcomes.set e.position .pending, position := e.position + 1 } := by
  rw [Entry.pendWord, ← hstate]

theorem State.withQueue_queue (s : State) (n : Initiator) (older younger : List Entry) (e : Entry) :
    (s.withQueue n older e younger).queues[n] = older ++ e :: younger := by simp [State.withQueue]

/-! ### Refused words -/

/-- Settles O25: the checks decide the path, which settles the word and raises REFUSED when enabled. -/
theorem refusedWordHasNoEffect : Obligations.RefusedWordHasNoEffect := by
  intro s n older younger e w h hrun hmatch x r hchecks m outcomes t t'
  have hpath : s.routePath n e = .refused ⟨w, r⟩ := by
    cases htransfer : e.transfer with
    | read k =>
      have hnot : x.readerSet.getLsbD n.val = false := by simpa only [htransfer] using hchecks
      rw [State.routePath_read hmatch htransfer, if_neg (by rw [hnot]; nofun)]
    | write ws =>
      simp only [htransfer] at hchecks
      obtain ⟨word, hword, hrefuse⟩ := hchecks
      rw [State.routePath_write hmatch htransfer hword, if_pos]
      rw [Window.refusesWrite_iff]
      have hlast : (x.offsetOf (e.wordAddress e.position) = x.recordWords - 1 ∧ 0 < x.recordWords)
          → x.offsetOf (e.wordAddress e.position) + 1 = x.recordWords := fun h => by omega
      tauto
  refine exec_routeWord_next h hrun (e' := e.settleWord .refused 0) (by simp [Entry.settleWord]) (by simp [Entry.settleWord, hrun])
    (by simp [Entry.settleWord]) (by simp [Entry.settleWord]) ?_ ?_
  · rw [hpath]
    simp only [State.follow]
    rw [State.updateEntry_layout h.2.1, Entry.settleWord_eq]
    rfl
  · have hsettled : t.queues[n] = older ++ e.settleWord .refused 0 :: younger := by
      rw [Entry.settleWord_eq]
      exact State.withQueue_queue _ _ _ _ _
    change (if x.enables.refused then _ else _ : State).queues[n] = _
    split
    · exact hsettled
    · exact hsettled

end Sys2Proof.Machine

/-! Runs (R5, R6): the words that join one, and the word at which it ends. -/

namespace Sys2Proof.Machine

variable {s t : State} {n : Initiator} {older younger : List Entry} {e e' : Entry} {w : WindowId} {r : RecordId}

/-- The run that a word extends, in the words of R5, R6 and R81. -/
theorem extendRun_eq (run : Option Run) (window : Option WindowId) (position : Nat) (target : Option RecordId) :
    extendRun run window position target = { run.getD ⟨window, position, 0, []⟩ with
      count := (run.getD ⟨window, position, 0, []⟩).count + 1
      records := (run.getD ⟨window, position, 0, []⟩).records
        ++ target.toList.filter (fun t => !(run.getD ⟨window, position, 0, []⟩).records.contains t) } := by
  cases run with
  | none => cases target <;> rfl
  | some run =>
    cases target with
    | none => simp [extendRun]
    | some t =>
      simp only [extendRun, Option.getD_some, Option.toList_some, List.filter_cons, List.filter_nil]
      cases run.records.contains t <;> simp

/-- A run that ends is handed over: a pass-through run to the DIRECT requester, a direct-read run to the interlock (R5, R6). -/
theorem State.handOverRun_layout (h : s.queueIs n older e younger) {run : Run} (hrun : e.run = some run) :
    s.handOverRun n e.tag = match run.window with
      | none => (s.withQueue n older { e with run := none } younger).updateDirect n
          fun l => l ++ [.passThrough (e.runBurst run) (run.refs n e.tag)]
      | some _ => (s.withQueue n older { e with run := none } younger).arrive
          (.direct n (run.refs n e.tag) (e.wordAddress run.first)) run.records := by
  have hended : (s.updateEntry n e.tag fun x => { x with run := none }) = s.withQueue n older { e with run := none } younger :=
    State.updateEntry_layout h _
  cases hwindow : run.window with
  | none => simp only [State.handOverRun, State.entry_layout h, hrun, hwindow, hended]
  | some w => simp only [State.handOverRun, State.entry_layout h, hrun, hwindow, hended]

/-- The word joins the run being formed (R5, R6). -/
theorem Entry.joinRun_eq (hstate : e.state = .inProgress) (window : Option WindowId) (target : Option RecordId) :
    e.joinRun window target = { e with
      outcomes := e.outcomes.set e.position .pending, position := e.position + 1
      run := some (extendRun e.run window e.position target) } := by
  rw [Entry.joinRun, Entry.pendWord_eq hstate]

/-- A run's hand-over moves no entry but its own, which keeps everything but the run. -/
theorem State.handOverRun_queue (h : s.queueIs n older e younger) {run : Run} (hrun : e.run = some run) :
    (s.handOverRun n e.tag).queues[n] = older ++ { e with run := none } :: younger := by
  rw [State.handOverRun_layout h hrun]
  split
  · exact State.withQueue_queue _ _ _ _ _
  · obtain ⟨-, -, -, hqueues, -⟩ := (s.withQueue n older { e with run := none } younger).arrive_frame
      (.direct n (run.refs n e.tag) (e.wordAddress run.first)) run.records
    rw [hqueues]
    exact State.withQueue_queue _ _ _ _ _

/-- The path of a word depends on the window table, the slots and the word's place alone. -/
theorem State.routePath_congr (hwindows : t.windows = s.windows) (hstaging : t.staging = s.staging) (hsnapshots : t.snapshots = s.snapshots)
    (haddress : e'.address = e.address) (htransfer : e'.transfer = e.transfer) (hposition : e'.position = e.position) :
    t.routePath n e' = s.routePath n e := by
  simp only [State.routePath, State.readPath, State.writePath, State.matchWindow, State.stagingFor, State.freeStagingSlot,
    State.snapshotFor, State.latchMustHold, State.freeSnapshotSlot, State.snapshotIn, State.readerSlots, Entry.wordAddress,
    hwindows, hstaging, hsnapshots, haddress, htransfer, hposition]
  rfl

/-- At the end of its routing an entry's run is handed over, and the next entry may start (R3, R5, R6). -/
theorem State.endRouting_layout (h : s.queueIs n older e younger) (m : Moment) :
    s.endRouting n e.tag m = if e.routed then (s.handOverRun n e.tag).passClosing n m else s := by
  unfold State.endRouting
  rw [State.entry_layout h]
  rfl

/-- A word of the run's own kind joins it, and the last word of a request hands it over (R5, R6). -/
theorem exec_routeWord_joins (h : s.routesNext n older e younger) {p : Path} {window : Option WindowId} {target : Option RecordId}
    (hpath : s.routePath n e = p) (hcontinues : p.continues e.run = true)
    (hfollow : s.follow ⟨n, e.tag, e.position⟩ p (e.moment s.now) = s.updateEntry n e.tag fun x => x.joinRun window target) :
    exec (.routeWord n) s = .next (if e.position + 1 = e.transfer.length
      then ((s.withQueue n older (e.joinRun window target) younger).handOverRun n e.tag).passClosing n (e.moment s.now)
      else s.withQueue n older (e.joinRun window target) younger) := by
  have his := State.withQueue_is (e' := e.joinRun window target) h.2.1 rfl
  have hrouted : (e.joinRun window target).routed = true ↔ e.position + 1 = e.transfer.length := beq_iff_eq
  have hend := State.endRouting_layout his (e.moment s.now)
  simp only [hrouted] at hend
  rw [exec, execRouteWord_layout h, State.routeEntry, hpath]
  simp only [if_pos hcontinues]
  rw [hfollow, State.updateEntry_layout h.2.1]
  exact congrArg _ hend

/-- A word that does not go on with the run finds it handed over, and is then routed as with no run (R5, R6; log 10). -/
theorem exec_routeWord_ends (h : s.routesNext n older e younger) {run : Run} (hrun : e.run = some run)
    (hcontinues : ¬ (s.routePath n e).continues (some run) = true) :
    exec (.routeWord n) s = exec (.routeWord n) (s.handOverRun n e.tag) := by
  obtain ⟨htaking, hqueue, holder, hstate, hposition⟩ := id h
  have hnext : (s.handOverRun n e.tag).routesNext n older { e with run := none } younger :=
    ⟨⟨by simpa using htaking.1, by simpa using htaking.2.1, by simpa using htaking.2.2⟩,
      ⟨State.handOverRun_queue hqueue hrun, hqueue.2⟩, holder, hstate, hposition⟩
  obtain ⟨hwindows, hstaging⟩ := s.handOverRun_slots n e.tag
  have hpath : (s.handOverRun n e.tag).routePath n { e with run := none } = s.routePath n e :=
    State.routePath_congr hwindows hstaging (by simp) rfl rfl rfl
  have hmoment : ({ e with run := none } : Entry).moment (s.handOverRun n e.tag).now = e.moment s.now := by
    simp [Entry.moment, State.now]
  rw [exec, execRouteWord_layout h, State.routeEntry, exec, execRouteWord_layout hnext, State.routeEntry_without_run rfl, hpath, hmoment]
  simp only [hrun, if_neg hcontinues]

/-- Settles O26: the word's path tells whether it goes on with the run. -/
theorem wordsJoinTheirRunUntilItEnds : Obligations.WordsJoinTheirRunUntilItEnds := by
  constructor
  · intro s n older younger e window target h hmatch hsame old run pended refs start
    have hjoined : e.joinRun window target = { pended with run := some run } := by
      rw [Entry.joinRun_eq h.2.2.2.1, extendRun_eq]
    have hwindow : run.window = window := by
      cases hrun : e.run with
      | none => simp [run, old, hrun]
      | some x => simpa [run, old, hrun] using hsame x hrun
    have hexec : exec (.routeWord n) s = .next (if e.position + 1 = e.transfer.length
        then ((s.withQueue n older (e.joinRun window target) younger).handOverRun n e.tag).passClosing n (e.moment s.now)
        else s.withQueue n older (e.joinRun window target) younger) := by
      cases hw : s.matchWindow (e.wordAddress e.position) with
      | none =>
        rw [hw] at hmatch
        obtain ⟨rfl, rfl⟩ := hmatch
        refine exec_routeWord_joins h (State.routePath_passThrough.mpr hw) ?_ rfl
        cases hrun : e.run with
        | none => rfl
        | some x => simpa [Path.continues] using hsame x hrun
      | some w =>
        rw [hw] at hmatch
        obtain ⟨r, rfl, hdirect, rfl, rfl⟩ := hmatch
        refine exec_routeWord_joins h (State.routePath_direct.mpr hdirect) ?_ rfl
        cases hrun : e.run with
        | none => rfl
        | some x => simpa [Path.continues] using hsame x hrun
    have his := State.withQueue_is (e' := ({ pended with run := some run } : Entry)) h.2.1 rfl
    have hlast : ¬ e.position + 1 < e.transfer.length ↔ e.position + 1 = e.transfer.length := by
      have := h.2.2.2.2
      omega
    rw [hexec, hjoined, ← ite_not]
    simp only [← hlast, not_not]
    by_cases hmore : e.position + 1 < e.transfer.length
    · rw [if_pos hmore, if_pos hmore]
    · rw [if_neg hmore, if_neg hmore]
      have hhanded := State.handOverRun_layout his (run := run) rfl
      rw [State.withQueue_withQueue, hwindow] at hhanded
      refine congrArg (fun x => Host.Outcome.next (State.passClosing x n (e.moment s.now))) (hhanded.trans ?_)
      cases window <;> rfl
  · intro s n older younger e r h hrun hends t refs start
    have hcontinues : ¬ (s.routePath n e).continues (some r) = true := by
      rw [State.routePath_continues]
      cases hw : r.window with
      | none => simpa only [hw] using hends
      | some w =>
        simp only [hw] at hends
        rintro ⟨target, htarget, hdirect⟩
        exact hends target htarget hdirect
    rw [exec_routeWord_ends h hrun hcontinues, State.handOverRun_layout h.2.1 hrun]
    refine congrArg _ ?_
    cases r.window <;> rfl

end Sys2Proof.Machine

/-! The words that write, hold and read (R9, R45 to R53, R91, R92, R95). -/

namespace Sys2Proof.Machine

variable {s t : State} {n : Initiator} {older younger : List Entry} {e e' : Entry} {w : WindowId} {r : RecordId}

/-! ### Writes -/

/-- Every data offset is present (R45). -/
theorem Gather.complete_iff (g : Gather) (x : Window) :
    g.complete x = true ↔ ∀ (i : Nat) (_ : i < 32), i < x.dataWords → g.words[i] ≠ none := by
  rw [Gather.complete, List.all_eq_true]
  simp only [List.mem_take_iff_getElem, Vector.getElem_toList, Vector.length_toList, Option.isSome_iff_ne_none]
  constructor
  · intro h i hi hdata
    exact h _ ⟨i, by omega, rfl⟩
  · rintro h _ ⟨i, hi, rfl⟩
    exact h i (by omega) (by omega)

/-- A write to the slot its own initiator fills is stored there (R48). -/
theorem State.writePath_store {slot : Fin 16} {g : Gather} {timer : Timer} (his : s.stagingIs r slot)
    (hslot : s.staging[slot] = .filling g timer) (howner : g.owner = n) (o : Nat) (d : Word) :
    s.writePath n r o d = .store slot o d := by
  rw [State.writePath, State.stagingFor_eq_some.mpr his]
  simp only [hslot, if_pos howner]

/-- A write whose record has no slot opens the lowest-numbered FREE one (R47). -/
theorem State.writePath_open {slot : Fin 16} (hnone : s.noStaging r) (hactive : s.windows[r.window].state = .active)
    (hfree : s.staging[slot] = .free) (hlowest : ∀ i : Fin 16, i < slot → s.staging[i] ≠ .free) (o : Nat) (d : Word) :
    s.writePath n r o d = .openSlot slot r o d := by
  have hfound : s.freeStagingSlot = some slot :=
    findPool_eq_some.mpr ⟨beq_iff_eq.mpr hfree, fun i hi => beq_eq_false_iff_ne.mpr (hlowest i hi)⟩
  rw [State.writePath, State.stagingFor_eq_none.mpr hnone]
  simp only [hactive, reduceCtorEq, if_false, hfound]

/-- A change of the staging pool leaves a queue's layout. -/
theorem State.queueIs.setStaging (h : s.queueIs n older e younger) (v : Vector StagingSlot 16) :
    (s.setStaging v).queueIs n older e younger := h

/-- A write that leaves its record incomplete is answered OK at once (R48). -/
theorem State.storeWord_incomplete (hqueue : s.queueIs n older e younger) {slot : Fin 16} {g : Gather} {timer : Timer} {o : Nat}
    {d : Word} (hnot : ¬ Gather.complete { g with words := g.words.setIfInBounds o (some d) } s.windows[g.target.window] = true) :
    s.storeWord ⟨n, e.tag, e.position⟩ slot g timer o d = { s.withQueue n older (e.settleWord .ok 0) younger with
      staging := s.staging.set slot (.filling { g with words := g.words.setIfInBounds o (some d) } timer) } := by
  rw [State.storeWord]
  simp only [if_neg hnot]
  rw [State.updateEntry_layout (State.queueIs.setStaging hqueue _)]
  rfl

/-- A write that completes its record makes the slot COMMITTING, and its commit arrives (R49). -/
theorem State.storeWord_complete (hqueue : s.queueIs n older e younger) {slot : Fin 16} {g : Gather} {timer : Timer} {o : Nat}
    {d : Word} (hcomplete : Gather.complete { g with words := g.words.setIfInBounds o (some d) } s.windows[g.target.window] = true) :
    s.storeWord ⟨n, e.tag, e.position⟩ slot g timer o d = State.arrive { s.withQueue n older e.pendWord younger with
      staging := s.staging.set slot (.committing { g with words := g.words.setIfInBounds o (some d) } ⟨⟨n, e.tag, e.position⟩, false, none⟩) }
      (.commit slot) [g.target] := by
  rw [State.storeWord]
  simp only [if_pos hcomplete]
  rw [State.updateEntry_layout (State.queueIs.setStaging hqueue _)]
  rfl

theorem State.arrive_queues (s : State) (owner : OpOwner) (records : List RecordId) : (s.arrive owner records).queues = s.queues := by
  simp

/-- Settles O27: the word is stored in the slot its path names, and the record is complete or not. -/
theorem writesAreGathered : Obligations.WritesAreGathered := by
  intro s n older younger e r o d slot g timer h hrun hadmitted m routed hslot stored x dataWords outcomes settled pended
  have hfollow : s.follow ⟨n, e.tag, e.position⟩ (s.routePath n e) m = s.storeWord ⟨n, e.tag, e.position⟩ slot g timer o d ∧ g.target = r := by
    rw [hadmitted.path]
    rcases hslot with ⟨his, hfilling, howner⟩ | ⟨hnone, hactive, hfree, hlowest, rfl, rfl⟩
    · have htarget : g.target = r := by simpa [hfilling, StagingSlot.holdsRecord, -Fin.getElem_fin] using his.1
      rw [State.writePath_store his hfilling howner]
      simp only [State.follow, hfilling]
      exact ⟨trivial, htarget⟩
    · rw [State.writePath_open hnone hactive hfree hlowest]
      exact ⟨rfl, rfl⟩
  obtain ⟨hfollow, rfl⟩ := hfollow
  have hsettled : e.settleWord .ok 0 = settled := Entry.settleWord_eq e .ok 0
  have hpended : e.pendWord = pended := Entry.pendWord_eq h.2.2.2.1
  have hcomplete : stored.complete x = true ↔ ∀ (i : Nat) (_ : i < 32), i < dataWords → stored.words[i] ≠ none := Gather.complete_iff _ _
  refine ⟨fun ⟨i, hi, hdata, hmissing⟩ => ?_, fun hall => ?_⟩
  · have hnot : ¬ stored.complete x = true := fun hc => hcomplete.mp hc i hi hdata hmissing
    rw [State.storeWord_incomplete h.2.1 hnot, hsettled] at hfollow
    exact exec_routeWord_next h hrun (e' := settled) rfl hrun rfl rfl hfollow (State.withQueue_queue _ _ _ _ _)
  · rw [State.storeWord_complete h.2.1 (hcomplete.mpr hall), hpended] at hfollow
    refine exec_routeWord_next h hrun (e' := pended) rfl hrun rfl rfl hfollow ?_
    rw [State.arrive_queues]
    exact State.withQueue_queue _ _ _ _ _

/-! ### Holds -/

/-- A word that holds changes its entry alone, which records why (R9). -/
theorem exec_routeWord_holds (h : s.routesNext n older e younger) (hrun : e.run = none) {reason : HoldReason}
    (hpath : s.routePath n e = .hold reason r) : exec (.routeWord n) s = .next (s.withQueue n older { e with
      state := .held ⟨reason, r, (e.moment s.now).tick, ⟨(s.timeBase.counter - (e.moment s.now).tick).toNat, none⟩, .none⟩ } younger) := by
  have hnothold : e.hold = none := by simp [Entry.hold, h.2.2.2.1]
  refine exec_routeWord_stays h hrun (e' := e.holdWord reason r s.timeBase.counter (e.moment s.now)) rfl hrun rfl rfl ?_ ?_
  · rw [hpath]
    simp only [State.follow]
    rw [State.updateEntry_layout h.2.1, Entry.holdWord, hnothold]
    rfl
  · rw [Entry.holdWord, hnothold]
    exact State.withQueue_queue _ _ _ _ _

/-- Settles O28: each reason is the matcher's decision, and the word's path then only holds. -/
theorem wordsHoldForTheirReason : Obligations.WordsHoldForTheirReason := by
  intro s n older younger e r reason h hrun x hreason m
  refine exec_routeWord_holds h hrun ?_
  rcases hreason with ⟨o, d, hadmitted, hwrite⟩ | ⟨hmatch, hrecord, hoffset, hread, hmember, hsnapshots, hnone, hread'⟩
  · rw [hadmitted.path, State.writePath]
    rcases hwrite with ⟨rfl, slot, his, hother⟩ | ⟨hnostaging, ⟨rfl, hdraining⟩ | ⟨rfl, hactive, hfull⟩⟩
    · rw [State.stagingFor_eq_some.mpr his]
      cases hslot : s.staging[slot] with
      | filling g timer => simp only [hslot, if_neg (hother g timer hslot)]
      | committing g info => simp only [hslot]
      | free => simp only [hslot]
    · rw [State.stagingFor_eq_none.mpr hnostaging]
      simp only [show s.windows[r.window].state = _ from hdraining, if_true]
    · have hnoslot : s.freeStagingSlot = none := findPool_eq_none.mpr fun i => beq_eq_false_iff_ne.mpr (hfull i)
      rw [State.stagingFor_eq_none.mpr hnostaging]
      simp only [show s.windows[r.window].state = _ from hactive, reduceCtorEq, if_false, hnoslot]
  · have hsnapshotRead : s.snapshotRead n e r 0 := ⟨hmatch, hrecord, hoffset.symm, hread, hmember, hsnapshots⟩
    rw [hsnapshotRead.path, State.readPath, State.snapshotFor_eq_none.mpr hnone]
    simp only [show s.windows[r.window].snapshots = true from hsnapshots, Bool.not_true, Bool.false_eq_true, if_false, ne_eq, not_true_eq_false]
    rcases hread' with ⟨rfl, hdraining⟩ | ⟨rfl, hnot, hfull, hnowindow, hcount⟩
    · rw [if_pos hdraining]
    · have hmust : s.latchMustHold n r.window = true := by
        have hnoslot : s.freeSnapshotSlot = none := findPool_eq_none.mpr fun i => beq_eq_false_iff_ne.mpr (hfull i)
        rw [State.latchMustHold, hnoslot, State.snapshotIn_eq_none.mpr hnowindow, State.readerSlots_length]
        simpa using hcount
      rw [if_neg hnot, if_pos hmust]

end Sys2Proof.Machine

/-! The words that read snapshots (R91 to R94, R106), and the restart of a held word (R10). -/

namespace Sys2Proof.Machine

variable {s t : State} {n : Initiator} {older younger : List Entry} {e e' : Entry} {w : WindowId} {r : RecordId}

/-! ### Queues across a slot's freeing -/

/-- An owed restart leaves an entry that is not HELD. -/
theorem Entry.markRestart_of_not_held (h : ∀ k, e.state ≠ .held k) (p : Hold → Bool) (m : Moment) : e.markRestart p m = e := by
  unfold Entry.markRestart
  split
  · next k hk => exact absurd hk (h k)
  · rfl
  · rfl
  · rfl

/-- Owed restarts keep the layout of a queue around an entry that is not HELD. -/
theorem State.queueIs.markRestarts (h : s.queueIs n older e younger) (hheld : ∀ k, e.state ≠ .held k) (p : Hold → Bool) (m : Moment) :
    (s.markRestarts p m).queueIs n (older.map fun x => x.markRestart p m) e (younger.map fun x => x.markRestart p m) := by
  constructor
  · rw [State.markRestarts, State.setQueues_queues, Fin.getElem_fin, getElem_mapPool, ← Fin.getElem_fin, h.1, List.map_append,
      List.map_cons, Entry.markRestart_of_not_held hheld]
  · intro x hx
    rw [← List.map_append, List.mem_map] at hx
    obtain ⟨y, hy, rfl⟩ := hx
    rw [(y.markRestart_frame p m).1]
    exact h.2 y hy

/-- So does the freeing of a snapshot slot. -/
theorem State.queueIs.freeSnapshot (h : s.queueIs n older e younger) (hheld : ∀ k, e.state ≠ .held k) (slot : Fin 24) (m : Moment) :
    ∃ older' younger', (s.freeSnapshot slot m).queueIs n older' e younger' := by
  unfold State.freeSnapshot
  split
  · exact ⟨older, younger, h⟩
  · have hgiven : ((s.setSnapshots (s.snapshots.set slot .free)).giveUpLoad slot).queueIs n older e younger := by
      simpa [State.queueIs, -Fin.getElem_fin] using h
    exact ⟨_, _, hgiven.markRestarts hheld _ m⟩

/-! ### Snapshot reads -/

/-- A HELD slot's read set covers the record (R106). -/
theorem SnapshotSlot.fullyRead_held (i : SnapshotInfo) (words : List Word) (readSet : Vector Bool 32) :
    (SnapshotSlot.held i words readSet).fullyRead = true ↔ ∀ (k : Nat) (_ : k < 32), k < words.length → readSet[k] = true := by
  rw [SnapshotSlot.fullyRead, List.all_eq_true]
  simp only [List.mem_take_iff_getElem, Vector.getElem_toList, Vector.length_toList, id]
  constructor
  · intro h k hk hwords
    exact h _ ⟨k, by omega, rfl⟩
  · rintro h _ ⟨k, hk, rfl⟩
    exact h k (by omega) (by omega)

/-- The serving of a word from a HELD slot (R91). -/
theorem State.markServed_held {slot : Fin 24} {i : SnapshotInfo} {words : List Word} {readSet : Vector Bool 32}
    (hslot : s.snapshots[slot] = .held i words readSet) (o : Nat) (m : Moment) : s.markServed slot o m = { s with
      snapshots := s.snapshots.set slot (.held
        { i with lastUse := m.tick, timer := ⟨(s.timeBase.counter - m.tick).toNat, none⟩, useOrder := s.snapshotUses } words
        (readSet.setIfInBounds o true))
      snapshotUses := s.snapshotUses + 1 } := by
  rw [State.markServed, updatePool, hslot]
  rfl

/-- A read of a record that its reader holds is served (R91). -/
theorem State.readPath_serve {slot : Fin 24} {o : Nat} (hsnapshots : s.windows[r.window].snapshots = true)
    (his : s.snapshotIs n r slot) {i : SnapshotInfo} {words : List Word} {readSet : Vector Bool 32}
    (hslot : s.snapshots[slot] = .held i words readSet) : s.readPath n r o = .serve slot o := by
  rw [State.readPath, hsnapshots, State.snapshotFor_eq_some.mpr his]
  simp only [hslot, Bool.not_true, Bool.false_eq_true, if_false]

/-- A read of a record being loaded waits (R92). -/
theorem State.readPath_wait {slot : Fin 24} {o : Nat} (hsnapshots : s.windows[r.window].snapshots = true)
    (his : s.snapshotIs n r slot) {i : SnapshotInfo} {retry reload : Bool} {waiting : List WaitingWord}
    (hslot : s.snapshots[slot] = .loading i retry reload waiting) : s.readPath n r o = .wait slot o := by
  rw [State.readPath, hsnapshots, State.snapshotFor_eq_some.mpr his]
  simp only [hslot, Bool.not_true, Bool.false_eq_true, if_false]

/-- Settles O29: a HELD slot serves the word, a LOADING one takes it among its waiting words. -/
theorem readsAreServedFromTheReadersSnapshot : Obligations.ReadsAreServedFromTheReadersSnapshot := by
  intro s n older younger e r o slot h hrun hread his m routed
  obtain ⟨-, -, -, -, -, hsnapshots⟩ := id hread
  refine ⟨fun i words readSet hslot => ?_, fun i retry reload waiting hslot => ?_⟩
  · intro outcomes settled served
    have hpath := hread.path.trans (State.readPath_serve hsnapshots his hslot)
    have hsettled : e.settleWord .ok (words[o]?.getD 0) = settled := Entry.settleWord_eq e .ok _
    have hserved : (s.withQueue n older settled younger).markServed slot o m = served :=
      State.markServed_held (s := s.withQueue n older settled younger) hslot o m
    have hfollow : s.follow ⟨n, e.tag, e.position⟩ (s.routePath n e) m = served.releaseIfRead slot m := by
      rw [hpath]
      simp only [State.follow]
      rw [State.updateEntry_layout h.2.1, hslot, ← hserved, ← hsettled]
      rfl
    have hqueue : served.queueIs n older settled younger := State.withQueue_is h.2.1 rfl
    have hnotheld : ∀ k, settled.state ≠ .held k := by
      intro k
      change (if outcomes.all (·.coded) then EntryState.done else .inProgress) ≠ .held k
      split <;> nofun
    have hslot' : served.snapshots[slot] = .held
        { i with lastUse := m.tick, timer := ⟨(s.timeBase.counter - m.tick).toNat, none⟩, useOrder := s.snapshotUses } words
        (readSet.setIfInBounds o true) := by simp [served]
    rw [State.releaseIfRead, hslot'] at hfollow
    refine ⟨fun hall => ?_, fun ⟨k, hk, hwords, hunread⟩ => ?_⟩
    · rw [if_pos ((SnapshotSlot.fullyRead_held _ _ _).mpr hall)] at hfollow
      obtain ⟨older', younger', his'⟩ := hqueue.freeSnapshot hnotheld slot m
      exact exec_routeWord_acts h hrun (e' := settled) rfl hrun rfl rfl hfollow his'
    · rw [if_neg fun hfull => by
        rw [(SnapshotSlot.fullyRead_held _ _ _).mp hfull k hk hwords] at hunread
        cases hunread] at hfollow
      exact exec_routeWord_acts h hrun (e' := settled) rfl hrun rfl rfl hfollow hqueue
  · have hpath := hread.path.trans (State.readPath_wait hsnapshots his hslot)
    have hpended := Entry.pendWord_eq h.2.2.2.1
    have hfollow : s.follow ⟨n, e.tag, e.position⟩ (s.routePath n e) m = { s.withQueue n older e.pendWord younger with
        snapshots := s.snapshots.set slot (.loading i retry reload (waiting ++ [⟨⟨n, e.tag, e.position⟩, o⟩])) } := by
      rw [hpath]
      simp only [State.follow]
      rw [State.updateEntry_layout h.2.1, updatePool, hslot]
      rfl
    have hexec := exec_routeWord_next h hrun (e' := e.pendWord) rfl hrun rfl rfl hfollow (State.withQueue_queue _ _ _ _ _)
    rw [hpended] at hexec
    exact hexec

end Sys2Proof.Machine

/-! The lead-word read that latches (R88, R93 to R95; log 11), and the LOAD given up with its slot (R74, R105). -/

namespace Sys2Proof.Machine

variable {s t : State} {n : Initiator} {older younger : List Entry} {e e' : Entry} {w : WindowId} {r : RecordId}

/-! ### The slots a latch releases -/

/-- The choice between the slot of longest ago and another is the former (R88). -/
theorem State.olderSlot_oldest {old j : Fin 24} {x : SnapshotInfo} (hold : s.snapshots[old].info = some x)
    (hj : j = old ∨ ∃ y, s.snapshots[j].info = some y ∧ x.olderThan y = true) :
    s.olderSlot j old = old ∧ s.olderSlot old j = old := by
  rcases hj with rfl | ⟨y, hy, hyounger⟩
  · unfold State.olderSlot
    split
    · exact ⟨ite_self _, ite_self _⟩
    · exact ⟨rfl, rfl⟩
  · have hnot : y.olderThan x = false := by
      simp only [SnapshotInfo.olderThan, Bool.or_eq_true, Bool.and_eq_true, decide_eq_true_eq, beq_iff_eq, Bool.or_eq_false_iff,
        Bool.and_eq_false_iff, decide_eq_false_iff_not, beq_eq_false_iff_ne] at hyounger ⊢
      omega
    unfold State.olderSlot
    simp only [hold, hy, hyounger, hnot, if_true, Bool.false_eq_true, if_false, and_self]

/-- The slot of longest ago is found wherever it stands in the list (R88). -/
theorem State.foldl_olderSlot_oldest {old : Fin 24} {x : SnapshotInfo} (hold : s.snapshots[old].info = some x)
    {l : List (Fin 24)} {i : Fin 24} (hmem : old ∈ i :: l)
    (hall : ∀ j ∈ i :: l, j = old ∨ ∃ y, s.snapshots[j].info = some y ∧ x.olderThan y = true) : l.foldl s.olderSlot i = old := by
  induction l generalizing i with
  | nil => exact (List.mem_singleton.mp hmem).symm
  | cons j l ih =>
    rw [List.foldl_cons]
    by_cases hi : i = old
    · subst hi
      have hchoice := (State.olderSlot_oldest hold (hall j (by simp))).2
      rw [hchoice]
      exact ih List.mem_cons_self fun k hk => hall k (by rcases List.mem_cons.mp hk with rfl | hk <;> simp [*])
    · by_cases hj : j = old
      · subst hj
        have hchoice := (State.olderSlot_oldest hold (hall i (by simp))).1
        rw [hchoice]
        exact ih List.mem_cons_self fun k hk => hall k (by simp [List.mem_cons.mp hk])
      · have hrest : old ∈ l := by
          rcases List.mem_cons.mp hmem with h | h
          · exact absurd h.symm hi
          · rcases List.mem_cons.mp h with h | h
            · exact absurd h.symm hj
            · exact h
        have hchoice : s.olderSlot i j = i ∨ s.olderSlot i j = j := by
          unfold State.olderSlot
          split
          · split
            · exact .inr rfl
            · exact .inl rfl
          · exact .inl rfl
        refine ih (List.mem_cons_of_mem _ hrest) fun k hk => ?_
        rcases List.mem_cons.mp hk with rfl | hk
        · rcases hchoice with h | h <;> rw [h] <;> exact hall _ (by simp)
        · exact hall k (by simp [hk])

theorem State.mem_readerSlots {j : Fin 24} : j ∈ s.readerSlots n ↔ ∃ x, s.snapshots[j].info = some x ∧ x.reader = n := by
  simp [State.readerSlots, Option.any_eq_true, -Fin.getElem_fin]

/-- The reader's slot of longest ago (R88). -/
theorem State.oldestSlot_eq {old : Fin 24} {x : SnapshotInfo} (hold : s.snapshots[old].info = some x) (hreader : x.reader = n)
    (hothers : ∀ j y, s.snapshots[j].info = some y → y.reader = n → j ≠ old → x.olderThan y = true) : s.oldestSlot n = some old := by
  have hmem : old ∈ s.readerSlots n := State.mem_readerSlots.mpr ⟨x, hold, hreader⟩
  unfold State.oldestSlot
  split
  · next hnil => rw [hnil] at hmem; cases hmem
  · next i rest hcons =>
    refine congrArg some (State.foldl_olderSlot_oldest hold (hcons ▸ hmem) fun j hj => ?_)
    rw [← hcons, State.mem_readerSlots] at hj
    obtain ⟨y, hy, hyn⟩ := hj
    exact (eq_or_ne j old).imp id fun hne => ⟨y, hy, hothers j y hy hyn hne⟩

/-- The reader holds no slot in the window (R93). -/
theorem State.snapshotIn_none_of (h : ∀ (j : Fin 24) (x : SnapshotInfo), s.snapshots[j].info = some x → x.reader = n → x.target.window ≠ w) :
    s.snapshotIn n w = none := by
  refine findPool_eq_none.mpr fun j => ?_
  rw [Bool.eq_false_iff, ne_eq, Option.any_eq_true]
  rintro ⟨x, hx, hp⟩
  simp only [Bool.and_eq_true, beq_iff_eq] at hp
  exact h j x hx hp.1 hp.2

/-- Settling that a latch does before it takes a slot, from which slots the reader holds (R93). -/
theorem State.latchReleases_of_room (hnone : s.snapshotIn n w = none) (hroom : s.slotCount n < 4) (m : Moment) :
    s.latchReleases n w m = s := by
  rw [State.latchReleases_eq, State.latchFirst, hnone]
  exact if_pos (State.readerSlots_length ▸ hroom)

theorem State.latchReleases_of_window {old : Fin 24} (hsome : s.snapshotIn n w = some old) (m : Moment)
    (hroom : (s.releaseByLatch old m).slotCount n < 4) : s.latchReleases n w m = s.releaseByLatch old m := by
  rw [State.latchReleases_eq, State.latchFirst, hsome]
  exact if_pos (State.readerSlots_length ▸ hroom)

theorem State.latchReleases_of_full {old : Fin 24} (hnone : s.snapshotIn n w = none) (hfull : 4 ≤ s.slotCount n)
    (hold : s.oldestSlot n = some old) (m : Moment) : s.latchReleases n w m = s.releaseByLatch old m := by
  have hnot : ¬ (s.readerSlots n).length < Config.slotsPerReader := by
    rw [State.readerSlots_length]
    exact not_lt.mpr hfull
  rw [State.latchReleases_eq, State.latchFirst, hnone, State.latchSecond]
  simp only [if_neg hnot, hold]

/-! ### Queues across a release -/

theorem State.arriveEach_queues (s : State) (i : SnapshotInfo) (groups : List (List WaitingWord)) :
    (s.arriveEach i groups).queues = s.queues := by simp

theorem State.queueIs.releaseByLatch (h : s.queueIs n older e younger) (hheld : ∀ k, e.state ≠ .held k) (slot : Fin 24) (m : Moment) :
    ∃ older' younger', (s.releaseByLatch slot m).queueIs n older' e younger' := by
  unfold State.releaseByLatch
  split
  · exact ⟨older, younger, h⟩
  · exact h.freeSnapshot hheld slot m
  · next i _ _ waiting _ =>
    have harrived : (s.arriveEach i (rerouted waiting)).queueIs n older e younger := by
      rw [State.queueIs, State.arriveEach_queues]
      exact h
    exact harrived.freeSnapshot hheld slot m

/-! ### The latch -/

theorem State.takeSnapshotSlot_eq {slot : Fin 24} (hfree : s.snapshots[slot] = .free) (hlowest : ∀ i : Fin 24, i < slot → s.snapshots[i] ≠ .free)
    (ref : WordRef) (m : Moment) : s.takeSnapshotSlot ref r m = State.arrive { s with
      snapshots := s.snapshots.set slot
        (.loading ⟨ref.initiator, r, m.tick, ⟨(s.timeBase.counter - m.tick).toNat, none⟩, s.snapshotUses⟩ false false [⟨ref, 0⟩])
      snapshotUses := s.snapshotUses + 1 } (.load slot) [r] := by
  have hfound : s.freeSnapshotSlot = some slot :=
    findPool_eq_some.mpr ⟨beq_iff_eq.mpr hfree, fun i hi => beq_eq_false_iff_ne.mpr (hlowest i hi)⟩
  rw [State.takeSnapshotSlot, hfound]
  rfl

theorem State.arriveEach_eq_foldl (s : State) (i : SnapshotInfo) (groups : List (List WaitingWord)) :
    s.arriveEach i groups = groups.foldl (fun t g => t.arriveRerouted i g) s := by
  induction groups generalizing s with
  | nil => rfl
  | cons g rest ih => exact ih _

/-- The LOAD of a slot that is freed: withdrawn while it waits, orphaned once taken (R74, R105). -/
theorem State.giveUpLoad_cases (s : State) (slot : Fin 24) :
    ((∃ x ∈ s.interlock.waitList, x.owner = .load slot) → s.giveUpLoad slot = State.scan { s with interlock := { s.interlock with
        waitList := s.interlock.waitList.filter fun x => x.owner != .load slot } })
    ∧ ((∀ x ∈ s.interlock.waitList, x.owner ≠ .load slot) → s.giveUpLoad slot = { s with interlock := { s.interlock with
        table := s.interlock.table.map fun x => if x.owner = .load (some slot) then { x with owner := .load none } else x } }) := by
  have hany : (s.interlock.waitList.any fun x => x.owner == .load slot) = true ↔ ∃ x ∈ s.interlock.waitList, x.owner = .load slot := by
    simp
  constructor
  · intro h
    rw [State.giveUpLoad, if_pos (hany.mpr h)]
    rfl
  · intro h
    rw [State.giveUpLoad, if_neg fun hc => by
      obtain ⟨x, hx, hxs⟩ := hany.mp hc
      exact h x hx hxs]
    rfl

/-- The reader's slot in the window, the first of any (R88). -/
theorem State.snapshotIn_some_of {old : Fin 24} {x : SnapshotInfo} (hold : s.snapshots[old].info = some x) (hreader : x.reader = n)
    (hwindow : x.target.window = w)
    (hfirst : ∀ (j : Fin 24) (y : SnapshotInfo), j < old → s.snapshots[j].info = some y → y.reader = n → y.target.window ≠ w) :
    s.snapshotIn n w = some old := by
  refine findPool_eq_some.mpr ⟨?_, fun j hj => ?_⟩
  · rw [hold]
    simp [hreader, hwindow]
  · rw [Bool.eq_false_iff, ne_eq, Option.any_eq_true]
    rintro ⟨y, hy, hp⟩
    simp only [Bool.and_eq_true, beq_iff_eq] at hp
    exact hfirst j y hj hy hp.1 hp.2

/-- The path of a lead-word read that latches (R90, R93). -/
theorem State.snapshotRead.path_latch (h : s.snapshotRead n e r 0) (hnone : s.noSnapshot n fun y => y == r)
    (hstate : s.windows[r.window].state ≠ .draining) (hmust : s.latchMustHold n r.window = false) : s.routePath n e = .latch r := by
  obtain ⟨-, -, -, -, -, hsnapshots⟩ := id h
  rw [h.path, State.readPath, hsnapshots, State.snapshotFor_eq_none.mpr hnone]
  simp [hstate, hmust, -Fin.getElem_fin]

/-- Settles O30: the three ways in which a latch makes room are those of its releases, and the FREE slot it takes is the lowest. -/
theorem leadWordReadLatches : Obligations.LeadWordReadLatches := by
  refine ⟨?_, fun s slot m i => ⟨fun words readSet hslot => ?_, fun retry reload waiting hslot => ?_⟩, fun s slot => s.giveUpLoad_cases slot⟩
  · intro s t n older younger e r slot h hrun hread hnone hstate m pended holds elsewhere hcases hfree hlowest latched
    have hpended : s.updateEntry n e.tag Entry.pendWord = pended := by
      rw [State.updateEntry_layout h.2.1, Entry.pendWord_eq h.2.2.2.1]
    have hpendedIs : pended.queueIs n older { e with outcomes := e.outcomes.set e.position .pending, position := e.position + 1 } younger :=
      State.withQueue_is h.2.1 rfl
    have hnotheld : ∀ k, e.state ≠ .held k := fun k hk => by rw [h.2.2.2.1] at hk; cases hk
    have hnowindow (helsewhere : elsewhere) : s.snapshotIn n r.window = none :=
      State.snapshotIn_none_of fun j x hx hxn => helsewhere j x ⟨hx, hxn⟩
    have hreleases : pended.latchReleases n r.window m = t ∧ s.latchMustHold n r.window = false
        ∧ (∃ older' younger', t.queueIs n older'
            { e with outcomes := e.outcomes.set e.position .pending, position := e.position + 1 } younger')
        ∧ t.timeBase.counter = s.timeBase.counter := by
      rcases hcases with ⟨helsewhere, hroom, rfl⟩ | ⟨old, x, ⟨hold, hreader⟩, hwindow, hfirst, rfl, hroom⟩ |
        ⟨old, x, helsewhere, hfull, ⟨hold, hreader⟩, hothers, rfl⟩
      · refine ⟨State.latchReleases_of_room (s := pended) (hnowindow helsewhere) hroom m, ?_, ⟨older, younger, hpendedIs⟩, rfl⟩
        have hslot : s.freeSnapshotSlot = some slot :=
          findPool_eq_some.mpr ⟨beq_iff_eq.mpr hfree, fun i hi => beq_eq_false_iff_ne.mpr (hlowest i hi)⟩
        rw [State.latchMustHold, hslot]
        rfl
      · have hin : s.snapshotIn n r.window = some old :=
          State.snapshotIn_some_of hold hreader hwindow fun j y hj hy hyn => hfirst j y hj ⟨hy, hyn⟩
        refine ⟨State.latchReleases_of_window (s := pended) hin m hroom, ?_, hpendedIs.releaseByLatch hnotheld old m, ?_⟩
        · rw [State.latchMustHold, hin]
          simp
        · simp [pended, State.withQueue]
      · have hoverfull : ¬ (s.readerSlots n).length < Config.slotsPerReader := by
          rw [State.readerSlots_length]
          exact not_lt.mpr hfull
        have holdest : s.oldestSlot n = some old := State.oldestSlot_eq hold hreader fun j y hy hyn hne => by
          simp only [SnapshotInfo.olderThan, Bool.or_eq_true, Bool.and_eq_true, decide_eq_true_eq, beq_iff_eq]
          exact (hothers j y ⟨hy, hyn⟩ hne).imp id fun ⟨heq, hlt⟩ => ⟨heq.symm, hlt⟩
        refine ⟨State.latchReleases_of_full (s := pended) (hnowindow helsewhere) hfull holdest m, ?_,
          hpendedIs.releaseByLatch hnotheld old m, ?_⟩
        · rw [State.latchMustHold, decide_eq_false hoverfull, Bool.and_false]
        · simp [pended, State.withQueue]
    obtain ⟨hreleases, hmust, ⟨older', younger', his⟩, htime⟩ := hreleases
    have hfollow : s.follow ⟨n, e.tag, e.position⟩ (s.routePath n e) m = latched := by
      rw [hread.path_latch hnone hstate hmust]
      simp only [State.follow]
      rw [hpended, hreleases, State.takeSnapshotSlot_eq hfree hlowest, htime]
    refine exec_routeWord_acts h hrun (e' := { e with outcomes := e.outcomes.set e.position .pending, position := e.position + 1 })
      rfl hrun rfl rfl hfollow (older' := older') (younger' := younger') ⟨?_, his.2⟩
    rw [State.arrive_queues]
    exact his.1
  · rw [State.releaseByLatch, hslot]
  · intro entries arrived
    rw [State.releaseByLatch, hslot]
    simp only [State.arriveEach_eq_foldl, rerouted, List.foldl_map]
    rfl

end Sys2Proof.Machine

/-! The restart of a held word (R10). -/

namespace Sys2Proof.Machine

variable {s t : State} {n : Initiator} {older younger : List Entry} {e e' : Entry} {w : WindowId} {r : RecordId}

/-- A change of an entry that sets its state, whatever it was. -/
abbrev SetsState (f : Entry → Entry) : Prop := ∀ (x : Entry) (state : EntryState), f { x with state := state } = f x

theorem setsState_settleWord (code : Code) (data : Word) : SetsState fun x => x.settleWord code data := fun _ _ => rfl

theorem setsState_pendWord : SetsState Entry.pendWord := fun _ _ => rfl

theorem setsState_joinRun (window : Option WindowId) (target : Option RecordId) : SetsState fun x => x.joinRun window target :=
  fun _ _ => rfl

/-- Such a change makes of a queue what it makes of it with the entry in another state. -/
theorem State.updateEntry_setsState (h : s.queueIs n older e younger) {f : Entry → Entry} (hf : SetsState f) (state : EntryState) :
    (s.withQueue n older { e with state := state } younger).updateEntry n e.tag f = s.updateEntry n e.tag f := by
  have his := State.withQueue_is (e' := { e with state := state }) h rfl
  have hother := State.updateEntry_layout his f
  rw [State.withQueue_withQueue, hf] at hother
  rw [State.updateEntry_layout h]
  exact hother

theorem State.filling_of_writePath {o : Nat} {d : Word} {slot : Fin 16} {k : Nat} {data : Word} (h : s.writePath n r o d = .store slot k data) :
    ∃ g timer, s.staging[slot] = .filling g timer := by
  unfold State.writePath at h
  split at h
  · split at h
    · next g timer hslot =>
      split at h <;> cases h
      exact ⟨g, timer, hslot⟩
    · cases h
    · cases h
  · split at h
    · cases h
    · split at h <;> cases h

theorem State.readPath_ne_store {o : Nat} {slot : Fin 16} {k : Nat} {data : Word} : s.readPath n r o ≠ .store slot k data := by
  intro h
  unfold State.readPath at h
  split at h
  · cases h
  · split at h
    · split at h <;> cases h
    · split at h
      · cases h
      · split at h
        · cases h
        · split at h <;> cases h

/-- The matcher stores a word only in a FILLING slot (R46). -/
theorem State.filling_of_routePath {slot : Fin 16} {k : Nat} {data : Word} (h : s.routePath n e = .store slot k data) :
    ∃ g timer, s.staging[slot] = .filling g timer := by
  unfold State.routePath at h
  dsimp only at h
  split at h
  · cases h
  · split at h
    · split at h
      · exact absurd h State.readPath_ne_store
      · cases h
    · split at h
      · split at h
        · cases h
        · exact State.filling_of_writePath h
      · cases h

/-- A word that does not hold is followed alike whatever state its entry was in (R10). -/
theorem State.follow_setsState (h : s.queueIs n older e younger) {p : Path} (hp : ∀ reason r, p ≠ .hold reason r)
    (hfilling : ∀ slot o d, p = .store slot o d → ∃ g timer, s.staging[slot] = .filling g timer) (state : EntryState) (position : Nat) (m : Moment) :
    (s.withQueue n older { e with state := state } younger).follow ⟨n, e.tag, position⟩ p m = s.follow ⟨n, e.tag, position⟩ p m := by
  have hupdate {f : Entry → Entry} (hf : SetsState f) := State.updateEntry_setsState h hf state
  have hstaging {f : Entry → Entry} (hf : SetsState f) (v : Vector StagingSlot 16) :
      ((s.withQueue n older { e with state := state } younger).setStaging v).updateEntry n e.tag f = (s.setStaging v).updateEntry n e.tag f :=
    State.updateEntry_setsState (h.setStaging v) hf state
  have hstore (slot : Fin 16) (g : Gather) (timer : Timer) (o : Nat) (d : Word) :
      (s.withQueue n older { e with state := state } younger).storeWord ⟨n, e.tag, position⟩ slot g timer o d
        = s.storeWord ⟨n, e.tag, position⟩ slot g timer o d := by
    simp only [State.storeWord]
    rw [hstaging setsState_pendWord, hstaging (setsState_settleWord .ok 0)]
    rfl
  cases p with
  | hold reason r => exact absurd rfl (hp reason r)
  | refused r =>
    simp only [State.follow]
    rw [hupdate (setsState_settleWord .refused 0)]
    rfl
  | passThrough => exact hupdate (setsState_joinRun none none)
  | direct r => exact hupdate (setsState_joinRun (some r.window) (some r))
  | store slot o d =>
    obtain ⟨g, timer, hslot⟩ := hfilling slot o d rfl
    have hslot' : (s.withQueue n older { e with state := state } younger).staging[slot] = .filling g timer := hslot
    simp only [State.follow, hslot, hslot']
    exact hstore slot g timer o d
  | openSlot slot r o d => exact hstore slot _ _ o d
  | serve slot o =>
    simp only [State.follow]
    rw [hupdate (setsState_settleWord .ok _)]
    rfl
  | wait slot o =>
    simp only [State.follow]
    rw [hupdate setsState_pendWord]
    rfl
  | latch r =>
    simp only [State.follow]
    rw [hupdate setsState_pendWord]

/-- The restart owed to the held word routes its entry afresh, at the moment of its cause (R10, R166). -/
theorem exec_restart (htaking : s.taking) (h : s.queueIs n older e younger) (holder : ∀ x ∈ older, ∀ k, x.state ≠ .held k) {k : Hold}
    (hheld : e.state = .held k) {m : Moment} (hmoment : k.restart.moment s.now = some m) :
    exec (.restart n) s
      = .next ((s.withQueue n older { e with closing := m.closing } younger).routeEntry n { e with closing := m.closing } m) := by
  have hfound : s.heldEntry n = some e := State.heldEntry_layout h (fun x hx => Entry.hold_eq_none (holder x hx)) hheld
  have hhold : e.hold = some k := by rw [Entry.hold, hheld]
  rw [exec, execRestart, State.event_of_taking htaking, State.restartHeld, hfound]
  simp only [hhold, Option.bind_some, hmoment]
  rw [State.updateEntry_layout h]

/-- Settles O31: the entry's path is that of the word held, and following it does not see whether the entry was HELD. -/
theorem restartsRouteTheHeldWordAfresh : Obligations.RestartsRouteTheHeldWordAfresh := by
  intro s n older younger e h htaking hqueue holder hheld hposition hrun
  refine ⟨fun closing hcause => ?_, fun hnone => ?_⟩
  · obtain ⟨m, hmoment, hclosing, hagain⟩ :
        ∃ m, h.restart.moment s.now = some m ∧ m.closing = closing ∧ s.now.orClosing closing = m := by
      rcases hcause with ⟨howed, rfl⟩ | ⟨t, howed, rfl⟩
      · exact ⟨s.now, by rw [howed]; rfl, rfl, rfl⟩
      · exact ⟨⟨t, true⟩, by rw [howed]; rfl, rfl, rfl⟩
    subst hclosing
    have hexec := exec_restart htaking hqueue (fun x hx => (holder x hx).1) hheld hmoment
    rw [State.routeEntry_without_run (e := { e with closing := m.closing }) hrun] at hexec
    have his : (s.withQueue n older { e with closing := m.closing } younger).queueIs n older { e with closing := m.closing } younger :=
      State.withQueue_is hqueue rfl
    have hpath : (s.withQueue n older { e with closing := m.closing } younger).routePath n { e with closing := m.closing }
        = s.routePath n e := State.routePath_congr rfl rfl rfl rfl rfl rfl
    rw [hpath] at hexec
    refine ⟨fun hroutes => ⟨_, hexec, ?_⟩, fun reason r hpathHold => ?_⟩
    · have hnext : (s.withQueue n older { e with state := .inProgress, closing := m.closing } younger).routesNext n older
          { e with state := .inProgress, closing := m.closing } younger :=
        ⟨htaking, State.withQueue_is hqueue rfl, fun x hx => (holder x hx).2, rfl, hposition⟩
      have hpath' : (s.withQueue n older { e with state := .inProgress, closing := m.closing } younger).routePath n
          { e with state := .inProgress, closing := m.closing } = s.routePath n e := State.routePath_congr rfl rfl rfl rfl rfl rfl
      have hmoment' : ({ e with state := .inProgress, closing := m.closing } : Entry).moment
          (s.withQueue n older { e with state := .inProgress, closing := m.closing } younger).now = m := hagain
      have hsame := State.follow_setsState his hroutes (fun slot o d hstore => State.filling_of_routePath hstore) .inProgress e.position m
      rw [State.withQueue_withQueue] at hsame
      rw [exec, execRouteWord_layout hnext, State.routeEntry_without_run (e := { e with state := .inProgress, closing := m.closing }) hrun, hmoment', hpath', ← hsame]
    · rw [hpathHold] at hexec
      have hfollow : (s.withQueue n older { e with closing := m.closing } younger).follow ⟨n, e.tag, e.position⟩ (.hold reason r) m
          = s.withQueue n older { e with
              state := .held { h with reason := reason, target := r, restart := .none }, closing := m.closing } younger := by
        simp only [State.follow]
        rw [State.updateEntry_layout his, State.withQueue_withQueue, Entry.holdWord]
        simp only [Entry.hold, hheld]
      have hunrouted : ¬ ({ e with
          state := .held { h with reason := reason, target := r, restart := .none }, closing := m.closing } : Entry).routed = true := by
        rw [Entry.routed, beq_iff_eq]
        exact ne_of_lt hposition
      have hend := State.endRouting_without_run (State.withQueue_is (e' := { e with
          state := .held { h with reason := reason, target := r, restart := .none }, closing := m.closing }) hqueue rfl) hrun m
      rw [if_neg hunrouted] at hend
      rw [hfollow] at hexec
      exact hexec.trans (congrArg Host.Outcome.next hend)
  · have hfound : s.heldEntry n = some e :=
      State.heldEntry_layout hqueue (fun x hx => Entry.hold_eq_none (holder x hx).1) hheld
    rw [exec, execRestart, State.event_of_taking htaking, State.restartHeld, hfound]
    simp only [Entry.hold, hheld, Option.bind_some, hnone]
    rfl

end Sys2Proof.Machine

/-! Events of the classes (R143), slots that become FREE (R10, R29, R55, R89), slot expiries (R58, R107) and time (R166 to R169). -/

namespace Sys2Proof.Machine

variable {s t : State}

/-! ### Classes and slots that become FREE -/

/-- Settles O32: a class takes an event by its own rule. -/
theorem classesTakeEvents : Obligations.ClassesTakeEvents :=
  ⟨fun _ _ _ => ⟨rfl, rfl⟩, rfl⟩

/-- An owed restart that stands is left as it is, whatever event comes after it (log 7). -/
theorem RestartDue.mark_eq (d : RestartDue) (m : Moment) :
    d.mark m = if d == .none then (if m.ofClose then .owedAtClose m.tick else .owed) else d := by
  cases d <;> rfl

theorem Entry.markRestart_held {e : Entry} {k : Hold} (hheld : e.state = .held k) (p : Hold → Bool) (m : Moment) :
    e.markRestart p m = if p k && k.restart == .none
      then { e with state := .held { k with restart := if m.ofClose then .owedAtClose m.tick else .owed } } else e := by
  obtain ⟨tag, address, transfer, state, position, outcomes, run, closing⟩ := e
  subst hheld
  simp only [Entry.markRestart, RestartDue.mark_eq]
  cases p k
  · rfl
  · cases k.restart == .none <;> rfl

/-- Settles O33: the conjuncts are the rules of freeing, of the drain check and of a restart mark. -/
theorem freedSlotsRestartAndDrain : Obligations.FreedSlotsRestartAndDrain := by
  refine ⟨fun s slot r m htarget => ?_, fun s slot i m hinfo => ?_, fun _ _ _ _ _ _ _ _ _ => ⟨rfl, rfl, rfl, rfl, rfl, rfl⟩,
    fun s w m => ⟨fun hstate hnot => ?_, fun hnot => ?_⟩, fun s p m => ⟨_, rfl, rfl, fun n => ?_⟩⟩
  · simp only [State.freeStaging, htarget]
    rfl
  · simp only [State.freeSnapshot, hinfo]
    rfl
  · refine s.drainCheck_of_drained w m hstate ?_
    rw [← Bool.not_eq_true, State.ownsSlot_iff]
    exact hnot
  · exact s.drainCheck_of_not w m (hnot.imp_right (State.ownsSlot_iff s w).mpr)
  · rw [State.markRestarts, State.setQueues_queues, Fin.getElem_fin, getElem_mapPool]
    refine List.map_congr_left fun e _ => ?_
    cases hstate : e.state with
    | held k => simp only [Entry.markRestart_held hstate]
    | waiting => simp only [Entry.markRestart, hstate]
    | inProgress => simp only [Entry.markRestart, hstate]
    | done => simp only [Entry.markRestart, hstate]

/-! ### Slot expiries -/

/-- Settles O34: the slot's timer is asked, and tells of the close that has expired it. -/
theorem slotTimeoutsFreeTheirSlot : Obligations.SlotTimeoutsFreeTheirSlot := by
  constructor
  · intro s slot g timer htaking hslot
    have hexec : exec (.gatherTimeout slot) s = .next (s.gatherExpiry slot) := by
      rw [exec, execGatherTimeout, State.event_of_taking htaking]
    simp only [hexec, State.gatherExpiry, hslot]
    refine ⟨fun closing hexpired => ?_, fun hnot => ?_⟩
    · simp only [hexpired]
      exact congrArg _ (s.abandon_filling slot ⟨closing, true⟩ hslot)
    · simp only [hnot]
  · intro s slot i words readSet htaking hslot x
    have hexec : exec (.snapshotTimeout slot) s = .next (s.snapshotExpiry slot) := by
      rw [exec, execSnapshotTimeout, State.event_of_taking htaking]
    simp only [hexec, State.snapshotExpiry, hslot]
    refine ⟨fun closing hexpired => ?_, fun hnot => ?_⟩
    · simp only [hexpired]
      rfl
    · simp only [hnot]

/-! ### Time -/

/-- A timer across the close of a tick, in the words of R169. -/
theorem Timer.close_eq (x : Timer) (timeout : Nat) (closing : Tick) : x.close timeout closing =
    ⟨x.elapsed + 1, x.expired.or (if 0 < timeout ∧ timeout ≤ min x.elapsed 65535 then some closing else none)⟩ := by
  obtain ⟨elapsed, expired⟩ := x
  have hreached : (Timer.mk elapsed expired).reached timeout = true ↔ 0 < timeout ∧ timeout ≤ min elapsed 65535 := by
    simp [Timer.reached, Timer.count, Config.elapsedCeiling]
  cases expired
  · simp only [Timer.close, hreached, Option.none_or]
  · rfl

theorem State.closeTick_queue (s : State) (n : Initiator) :
    s.closeTick.queues[n] = s.queues[n].map fun e => e.closeTick s.timeBase.holdTimeout s.timeBase.counter := by
  simp [State.closeTick]

theorem State.closeTick_staging (s : State) (i : Fin 16) :
    s.closeTick.staging[i] = s.staging[i].closeTick s.timeBase.gatherTimeout s.timeBase.counter := by
  simp [State.closeTick]

theorem State.closeTick_snapshot (s : State) (i : Fin 24) :
    s.closeTick.snapshots[i] = s.snapshots[i].closeTick s.timeBase.snapshotTimeout s.timeBase.counter := by
  simp [State.closeTick]

/-- What a tick close changes. -/
theorem State.closeTick_eq (s : State) : s.closeTick = { s with
    queues := s.closeTick.queues, staging := s.closeTick.staging, snapshots := s.closeTick.snapshots
    timeBase := { s.timeBase with counter := s.timeBase.counter + 1, position := 0 } } := by
  simp only [State.closeTick, State.setQueues, State.setStaging, State.setSnapshots, State.setTimeBase]

/-- Settles O35: the close is the map of each kind of timer over its pool. -/
theorem ticksCloseAndTimersExpire : Obligations.TicksCloseAndTimersExpire := by
  intro s htaking closed
  have hclosed (x : Timer) (timeout : Nat) : x.close timeout s.timeBase.counter = closed x timeout := by
    rw [Timer.close_eq]
    obtain ⟨elapsed, expired⟩ := x
    cases expired with
    | none => rw [Option.none_or]
    | some c => rw [Option.some_or]
  have hexec : exec .tickClose s = .next s.closeTick := by rw [exec, execTickClose, State.event_of_taking htaking]
  refine ⟨⟨_, hexec, s.closeTick_eq, fun n => ?_, fun i => ?_, fun i => ?_⟩, fun hnone => ?_⟩
  · rw [State.closeTick_queue]
    refine List.map_congr_left fun e _ => ?_
    cases hstate : e.state <;> simp only [Entry.closeTick, hstate, hclosed]
  · rw [State.closeTick_staging]
    cases s.staging[i] <;> simp only [StagingSlot.closeTick, hclosed]
  · rw [State.closeTick_snapshot]
    cases s.snapshots[i] <;> simp only [SnapshotSlot.closeTick, hclosed]
  · rw [hexec, step_of_none hnone, State.clkPeriod, State.event_of_taking htaking]
    refine ⟨fun hlast => ?_, fun hnot => ?_⟩
    · rw [if_pos hlast]
    · rw [if_neg (by omega)]
      rfl

end Sys2Proof.Machine

/-! The record interlock: arrival, taking and scans (R69 to R75). -/

namespace Sys2Proof.Machine

variable {s t : State} {records : List RecordId}

/-! ### The conditions of R70 -/

theorem recordsFree_iff (records : List RecordId) (others : List (List RecordId)) :
    recordsFree records others = true ↔ ∀ r ∈ records, ∀ o ∈ others, r ∉ o := by
  simp [recordsFree]

/-- A record of the operation is in a reservation or in an older waiting operation (R70). -/
abbrev Blocked (records : List RecordId) (table : List Reservation) (older : List WaitItem) : Prop :=
  ∃ r ∈ records, (∃ x ∈ table, r ∈ x.records) ∨ ∃ x ∈ older, r ∈ x.records

theorem unblocked_iff (records : List RecordId) (table : List Reservation) (older : List WaitItem) :
    unblocked records table older = true ↔ ¬ Blocked records table older := by
  simp only [unblocked, Bool.and_eq_true, recordsFree_iff, List.forall_mem_map, Blocked, not_exists, not_and, not_or]
  exact ⟨fun ⟨ht, ho⟩ r hr => ⟨fun x hx => ht r hr x hx, fun x hx => ho r hr x hx⟩,
    fun h => ⟨fun r hr => (h r hr).1, fun r hr => (h r hr).2⟩⟩

theorem tableHasRoom_iff (table : List Reservation) : tableHasRoom table = true ↔ table.length < 8 := decide_eq_true_iff

/-- Settles O36: the conditions of R70 decide on the arrival, and the taking gives the lowest free number. -/
theorem operationsArriveAndAreTaken : Obligations.OperationsArriveAndAreTaken := by
  refine ⟨fun s owner records => ?_, fun s records hroom => ⟨freeReservationId s.interlock.table, freeReservationId_fresh _ hroom,
    fun slot g info hslot => ?_, fun slot i hinfo => ?_, fun n words a => rfl⟩⟩
  · intro blocked
    have hblocked : ¬ blocked ↔ unblocked records s.interlock.table s.interlock.waitList = true := (unblocked_iff _ _ _).symm
    refine ⟨fun hnot hroom => ?_, fun hnot hfull => ?_, fun his => ?_⟩
    · rw [State.arrive, if_pos (hblocked.mp hnot), if_pos ((tableHasRoom_iff _).mpr hroom)]
    · rw [State.arrive, if_pos (hblocked.mp hnot), if_neg fun h => not_lt.mpr hfull ((tableHasRoom_iff _).mp h)]
      rfl
    · rw [State.arrive, if_neg fun h => hblocked.mpr h his]
      rfl
  · intro x count data words
    rw [State.take, State.takeCommit, hslot]
    rfl
  · simp only [State.take, State.takeLoad, hinfo]
    rfl

end Sys2Proof.Machine

/-! The scan of the waiting operations (R71). -/

namespace Sys2Proof.Machine

variable {s t : State} {records : List RecordId}

/-! ### What a taking does to the table -/

/-- The owner of the reservation that an operation's taking makes (R68). -/
def OpOwner.reservationOwner (o : OpOwner) : ReservationOwner :=
  match o with
  | .commit slot => .commit slot
  | .load slot => .load (some slot)
  | .direct _ words _ => .direct words

theorem State.take_reserves (s : State) (o : OpOwner) (records : List RecordId) : ∃ b, (s.take o records).interlock.table =
    s.interlock.table ++ [⟨freeReservationId s.interlock.table, o.reservationOwner, records, false, false, b⟩] := by
  cases o with
  | commit slot =>
    simp only [State.take, State.takeCommit]
    split <;> exact ⟨_, rfl⟩
  | load slot =>
    simp only [State.take, State.takeLoad]
    split <;> exact ⟨_, rfl⟩
  | direct n words a => exact ⟨_, rfl⟩

/-- Operations taken one after another. -/
def State.takeAll (s : State) (l : List WaitItem) : State := l.foldl (fun t x => t.take x.owner x.records) s

theorem State.takeAll_table (s : State) (l : List WaitItem) : ∃ made, (s.takeAll l).interlock.table = s.interlock.table ++ made
    ∧ made.map (fun x => (x.owner, x.records)) = l.map fun x => (x.owner.reservationOwner, x.records) := by
  induction l generalizing s with
  | nil => exact ⟨[], (List.append_nil _).symm, rfl⟩
  | cons x l ih =>
    obtain ⟨b, hfirst⟩ := s.take_reserves x.owner x.records
    obtain ⟨made, hrest, hmade⟩ := ih (s.take x.owner x.records)
    refine ⟨⟨freeReservationId s.interlock.table, x.owner.reservationOwner, x.records, false, false, b⟩ :: made, ?_, ?_⟩
    · rw [show s.takeAll (x :: l) = (s.take x.owner x.records).takeAll l from rfl, hrest, hfirst, List.append_assoc]
      rfl
    · rw [List.map_cons, List.map_cons, hmade]

/-! ### The marks of a scan -/

/-- The operations of a marked wait list that the scan takes. -/
def takenOf (marked : List (WaitItem × Bool)) : List WaitItem := (marked.filter fun x => x.2).map fun x => x.1

/-- Those that go on waiting. -/
def waitingOf (marked : List (WaitItem × Bool)) : List WaitItem := (marked.filter fun x => !x.2).map fun x => x.1

/-- An operation can be taken behind those passed over (R70). -/
abbrev State.Takeable (s : State) (passed : List WaitItem) (x : WaitItem) : Prop :=
  s.interlock.table.length < 8 ∧ ¬ Blocked x.records s.interlock.table passed

/-- The marks are those of a scan: an operation is taken exactly when it can be, the operations before it done with (R71). -/
def State.ScanMarks (s : State) (passed : List WaitItem) (marked : List (WaitItem × Bool)) : Prop :=
  ∀ (k : Nat) (x : WaitItem) (took : Bool), marked[k]? = some (x, took) →
    (took = true ↔ (s.takeAll (takenOf (marked.take k))).Takeable (passed ++ waitingOf (marked.take k)) x)

theorem State.ScanMarks.nil (s : State) (passed : List WaitItem) : s.ScanMarks passed [] := fun _ _ _ h => by simp at h

theorem State.ScanMarks.taken {passed : List WaitItem} {x : WaitItem} {marked : List (WaitItem × Bool)} (hx : s.Takeable passed x)
    (h : (s.take x.owner x.records).ScanMarks passed marked) : s.ScanMarks passed ((x, true) :: marked) := by
  intro k y took hk
  cases k with
  | zero =>
    obtain ⟨rfl, rfl⟩ := Prod.mk.inj (Option.some.inj hk)
    simpa [State.takeAll, takenOf, waitingOf] using hx
  | succ k => exact h k y took hk

theorem State.ScanMarks.passed {passed : List WaitItem} {x : WaitItem} {marked : List (WaitItem × Bool)} (hx : ¬ s.Takeable passed x)
    (h : s.ScanMarks (passed ++ [x]) marked) : s.ScanMarks passed ((x, false) :: marked) := by
  intro k y took hk
  cases k with
  | zero =>
    obtain ⟨rfl, rfl⟩ := Prod.mk.inj (Option.some.inj hk)
    simpa [State.takeAll, takenOf, waitingOf] using hx
  | succ k => simpa [takenOf, waitingOf] using h k y took hk

/-! ### The scan -/

/-- A scan with a full table leaves the rest of the wait list (R71). -/
theorem State.scanFrom_full (hfull : ¬ s.interlock.table.length < 8) (passed waiting : List WaitItem) :
    s.scanFrom passed waiting = s.setWaitList (passed ++ waiting) := by
  cases waiting with
  | nil => rw [State.scanFrom, List.append_nil]
  | cons x rest =>
    rw [State.scanFrom, if_pos]
    rw [Bool.not_eq_true', ← Bool.not_eq_true, tableHasRoom_iff]
    exact hfull

theorem State.scanFrom_takes {passed : List WaitItem} {x : WaitItem} (h : s.Takeable passed x) (rest : List WaitItem) :
    s.scanFrom passed (x :: rest) = (s.take x.owner x.records).scanFrom passed rest := by
  rw [State.scanFrom, (tableHasRoom_iff _).mpr h.1, if_neg (by decide), if_pos ((unblocked_iff _ _ _).mpr h.2)]

theorem State.scanFrom_passes {passed : List WaitItem} {x : WaitItem} (h : ¬ s.Takeable passed x) (rest : List WaitItem) :
    s.scanFrom passed (x :: rest) = s.scanFrom (passed ++ [x]) rest := by
  by_cases hroom : s.interlock.table.length < 8
  · rw [State.scanFrom, (tableHasRoom_iff _).mpr hroom, if_neg (by decide),
      if_neg fun hfree => h ⟨hroom, (unblocked_iff _ _ _).mp hfree⟩]
  · rw [State.scanFrom_full hroom, State.scanFrom_full hroom, List.append_assoc]
    rfl

/-- The marks of a scan, with what it makes of the state (R71). -/
theorem State.exists_scanMarks (s : State) (passed waiting : List WaitItem) : ∃ took : List Bool, took.length = waiting.length
    ∧ s.ScanMarks passed (waiting.zip took)
    ∧ s.scanFrom passed waiting = (s.takeAll (takenOf (waiting.zip took))).setWaitList (passed ++ waitingOf (waiting.zip took)) := by
  induction waiting generalizing s passed with
  | nil => exact ⟨[], rfl, .nil s passed, by rw [State.scanFrom]; simp [State.takeAll, takenOf, waitingOf]⟩
  | cons x rest ih =>
    by_cases hx : s.Takeable passed x
    · obtain ⟨took, hlength, hmarks, hscan⟩ := ih (s.take x.owner x.records) passed
      exact ⟨true :: took, congrArg (· + 1) hlength, .taken hx hmarks, (State.scanFrom_takes hx rest).trans hscan⟩
    · obtain ⟨took, hlength, hmarks, hscan⟩ := ih s (passed ++ [x])
      refine ⟨false :: took, congrArg (· + 1) hlength, .passed hx hmarks, (State.scanFrom_passes hx rest).trans ?_⟩
      rw [hscan, List.append_assoc]
      rfl

/-- No operation of the list can be taken behind those before it. -/
def State.AllWait (s : State) (l : List WaitItem) : Prop := ∀ (k : Nat) (x : WaitItem), l[k]? = some x → ¬ s.Takeable (l.take k) x

theorem State.AllWait.concat {l : List WaitItem} (h : s.AllWait l) {x : WaitItem} (hx : ¬ s.Takeable l x) : s.AllWait (l ++ [x]) := by
  intro k y hk
  rcases lt_trichotomy k l.length with hlt | rfl | hgt
  · rw [List.getElem?_append_left hlt] at hk
    rw [List.take_append_of_le_length hlt.le]
    exact h k y hk
  · rw [List.getElem?_concat_length] at hk
    rw [List.take_left]
    exact Option.some.inj hk ▸ hx
  · rw [List.getElem?_eq_none (by simpa using hgt)] at hk
    cases hk

/-- A taking frees nothing. -/
theorem State.AllWait.take {l : List WaitItem} (h : s.AllWait l) (o : OpOwner) (records : List RecordId) : (s.take o records).AllWait l := by
  intro k x hk ⟨hroom, hfree⟩
  obtain ⟨b, htable⟩ := s.take_reserves o records
  rw [htable] at hroom hfree
  refine h k x hk ⟨?_, fun ⟨r, hr, hblocked⟩ => hfree ⟨r, hr, hblocked.imp_left fun ⟨y, hy, hry⟩ =>
    ⟨y, List.mem_append_left _ hy, hry⟩⟩⟩
  rw [List.length_append] at hroom
  omega

theorem State.AllWait.full {l : List WaitItem} (hfull : ¬ s.interlock.table.length < 8) : s.AllWait l := fun _ _ _ h => hfull h.1

/-- When a scan ends, none of the operations that wait can be taken (R71). -/
theorem State.scanFrom_allWait {passed : List WaitItem} (h : s.AllWait passed) (waiting : List WaitItem) :
    (s.scanFrom passed waiting).AllWait (s.scanFrom passed waiting).interlock.waitList := by
  induction waiting generalizing s passed with
  | nil =>
    rw [State.scanFrom]
    exact h
  | cons x rest ih =>
    by_cases hx : s.Takeable passed x
    · rw [State.scanFrom_takes hx]
      exact ih (h.take _ _)
    · rw [State.scanFrom_passes hx]
      exact ih (h.concat hx)

/-- Settles O37: the marks are those of the scan, and what they say of each operation is the choice that the scan made. -/
theorem scansLeaveNothingTakeable : Obligations.ScansLeaveNothingTakeable := by
  refine ⟨fun s => ?_, fun s older younger x hlist => ?_, fun s id => rfl⟩
  · obtain ⟨took, hlength, hmarks, hscan⟩ := s.exists_scanMarks [] s.interlock.waitList
    refine ⟨took, hlength, ?_⟩
    intro marked taken waiting reached blocked
    have hreached (k : Nat) : reached k = s.takeAll (takenOf (marked.take k)) := rfl
    have hall : reached marked.length = s.takeAll (takenOf marked) := by rw [hreached, List.take_length]
    have hwaiting : waiting marked.length = waitingOf marked := congrArg waitingOf List.take_length
    have htaken : taken marked.length = takenOf marked := congrArg takenOf List.take_length
    refine ⟨fun k x hk => (hmarks k x true hk).mp rfl, fun k x hk => ?_, ?_, ?_⟩
    · by_contra hnot
      rw [not_or, not_le] at hnot
      exact absurd ((hmarks k x false hk).mpr hnot) (by decide)
    · rw [hall, hwaiting]
      exact hscan
    · obtain ⟨made, htable, hmade⟩ := s.takeAll_table (takenOf marked)
      refine ⟨made, ?_, hmade.trans ?_⟩
      · rw [State.scan, hscan]
        exact htable
      · rw [htaken]
        refine List.map_congr_left fun x _ => ?_
        cases x.owner <;> rfl
  · have hwait : ¬ s.scan.Takeable older x := by
      have h := State.scanFrom_allWait (s := s) (passed := []) (fun k y hk => by simp at hk) s.interlock.waitList older.length x
      rw [show s.scanFrom [] s.interlock.waitList = s.scan from rfl, hlist] at h
      simpa using h
    by_contra hnot
    rw [not_or, not_le] at hnot
    exact hwait hnot

end Sys2Proof.Machine

/-! The memory port's arbiter (R130 to R136) and the acknowledgement observer (R138, R159, R160). -/

namespace Sys2Proof.Machine

variable {s t : State} {x y : Reservation}

/-! ### Reservations by number -/

/-- A number names one reservation. -/
theorem State.reservationsApart.eq_of_id (h : s.reservationsApart) (hx : x ∈ s.interlock.table) (hy : y ∈ s.interlock.table)
    (hid : y.id = x.id) : y = x := List.inj_on_of_nodup_map h.2.1 hy hx hid

theorem State.reservation_eq_some {id : Fin 8} (h : s.reservationsApart) :
    s.reservation id = some x ↔ x ∈ s.interlock.table ∧ x.id = id := by
  constructor
  · exact fun hfound => ⟨List.mem_of_find?_eq_some hfound, by simpa using List.find?_some hfound⟩
  · rintro ⟨hx, rfl⟩
    cases hfound : s.reservation x.id with
    | none => exact absurd (by simp) (List.find?_eq_none.mp hfound x hx)
    | some y => exact congrArg some (h.eq_of_id hx (List.mem_of_find?_eq_some hfound) (by simpa using List.find?_some hfound))

theorem Reservation.issued_commit {slot : Fin 16} (h : x.owner = .commit slot) :
    x.issued = { x with inFlight := true, firstIssued := true } := by
  rw [Reservation.issued, h]

theorem Reservation.issued_other (h : ∀ slot, x.owner ≠ .commit slot) : x.issued = { x with inFlight := true } := by
  unfold Reservation.issued
  split
  · next slot hslot => exact absurd hslot (h slot)
  · rfl
  · rfl

/-- The issue of a reservation's burst, from what it makes of the reservation (R127). -/
theorem State.issueReservation_eq (h : s.reservationsApart) (hx : x ∈ s.interlock.table) {f : Reservation → Reservation}
    (hissued : x.issued = f x) (q : Requester) : s.issueReservation q x = { s with
      interlock := { s.interlock with table := s.interlock.table.map fun y => if y.id = x.id then f y else y }
      port := { s.port with outstanding := s.port.outstanding ++ [⟨q, x.burst, .reservation x.id⟩] } } := by
  have htable : (s.interlock.table.map fun y => if y.id = x.id then y.issued else y)
      = s.interlock.table.map fun y => if y.id = x.id then f y else y := by
    refine List.map_congr_left fun y hy => ?_
    by_cases hid : y.id = x.id
    · rw [if_pos hid, if_pos hid, h.eq_of_id hx hy hid, hissued]
    · rw [if_neg hid, if_neg hid]
  rw [State.issueReservation, State.updateReservation, htable]
  rfl

/-! ### The requesters -/

theorem State.holdsBurst_direct (s : State) : s.holdsBurst .direct = true ↔ ∃ n : Initiator, s.port.direct[n] ≠ [] := by
  rw [State.holdsBurst, pool_any_iff]
  simp [-Fin.getElem_fin]

theorem Reservation.commitWaits_iff (x : Reservation) : x.commitWaits = true ↔ (∃ slot, x.owner = .commit slot) ∧ x.inFlight = false := by
  unfold Reservation.commitWaits
  cases x.owner <;> simp

theorem Reservation.loadWaits_iff (x : Reservation) : x.loadWaits = true ↔ (∃ slot, x.owner = .load slot) ∧ x.inFlight = false := by
  unfold Reservation.loadWaits
  cases x.owner <;> simp

theorem State.holdsBurst_commit (s : State) : s.holdsBurst .commit = true
    ↔ ∃ x ∈ s.interlock.table, (∃ slot, x.owner = .commit slot) ∧ x.inFlight = false := by
  simp only [State.holdsBurst, List.any_eq_true, Reservation.commitWaits_iff]

theorem State.holdsBurst_load (s : State) : s.holdsBurst .load = true
    ↔ ∃ x ∈ s.interlock.table, (∃ slot, x.owner = .load slot) ∧ x.inFlight = false := by
  simp only [State.holdsBurst, List.any_eq_true, Reservation.loadWaits_iff]

theorem State.holdsBurst_notice (s : State) : s.holdsBurst .notice = true ↔ ∃ w, s.notice.writer = some w ∧ w.outstanding = false := by
  simp only [State.holdsBurst, Option.any_eq_true, Bool.not_eq_true']

/-! ### The grant -/

/-- A grant changes the rotation order alone before its burst is issued (R135). -/
theorem MemoryPort.rotate_eq (p : MemoryPort) (q : Requester) : p.rotate q = { p with rotation := (p.rotate q).rotation } := by
  unfold MemoryPort.rotate
  split <;> rfl

/-- Nothing is granted with no free place, and while no requester holds a burst (R136). -/
theorem exec_portGrant_none (htaking : s.taking)
    (h : 8 ≤ s.port.outstanding.length ∨ ∀ q ∈ s.port.priority, ¬ s.holdsBurst q = true) : exec .portGrant s = .next s := by
  have hgrantee : s.grantee = none := by
    unfold State.grantee
    split
    · next hroom =>
      exact List.find?_eq_none.mpr (h.resolve_left (not_le.mpr (decide_eq_true_iff.mp hroom)))
    · rfl
  rw [exec, execPortGrant, State.event_of_taking htaking, State.grant, hgrantee]

/-- The first requester in the order that holds a burst is granted (R136). -/
theorem exec_portGrant_of (htaking : s.taking) (hroom : s.port.outstanding.length < 8) {higher lower : List Requester} {q : Requester}
    (horder : s.port.priority = higher ++ q :: lower) (hhigher : ∀ p ∈ higher, ¬ s.holdsBurst p = true) (hq : s.holdsBurst q = true) :
    exec .portGrant s = .next ((s.setPort (s.port.rotate q)).issueFrom q) := by
  have hgrantee : s.grantee = some q := by
    rw [State.grantee, if_pos (show s.port.hasRoom = true from decide_eq_true_iff.mpr hroom), horder, List.find?_append,
      List.find?_eq_none.mpr hhigher, List.find?_cons, hq]
    rfl
  rw [exec, execPortGrant, State.event_of_taking htaking, State.grant, hgrantee]

/-- The oldest element with the property, its elders lacking it. -/
theorem find?_layout {α : Type} {p : α → Bool} {l elder younger : List α} {a : α} (hl : l = elder ++ a :: younger) (ha : p a = true)
    (helder : ∀ b ∈ elder, ¬ p b = true) : l.find? p = some a := by
  rw [hl, List.find?_append, List.find?_eq_none.mpr helder, List.find?_cons, ha]
  rfl

/-- Settles O38: the grantee is found along the order, and each requester issues what it holds. -/
theorem grantsFollowThePriorityOrder : Obligations.GrantsFollowThePriorityOrder := by
  intro s htaking holds order rotated issuedTable
  have hholds (q : Requester) : s.holdsBurst q = true ↔ holds q := by
    cases q with
    | direct => exact s.holdsBurst_direct
    | commit => exact s.holdsBurst_commit
    | load => exact s.holdsBurst_load
    | notice => exact s.holdsBurst_notice
  have hpriority : s.port.priority = order := by
    simp only [MemoryPort.priority, order]
    cases s.port.mode <;> rfl
  have hrotate (q : Requester) : s.port.rotate q = rotated q := by
    have hrotation : (s.port.rotate q).rotation = (rotated q).rotation := by
      simp only [MemoryPort.rotate, rotated]
      cases s.port.mode <;> rfl
    rw [s.port.rotate_eq q, hrotation]
  refine ⟨fun h => exec_portGrant_none htaking (h.imp_right fun hnone q hq => ?_), ?_⟩
  · rw [hholds]
    exact hnone q (hpriority ▸ hq)
  · intro higher lower q hroom horder hhigher hq hapart
    have hexec := exec_portGrant_of htaking hroom (hpriority.trans horder) (fun p hp h => hhigher p hp ((hholds p).mp h))
      ((hholds q).mpr hq)
    rw [hrotate] at hexec
    refine ⟨?_, ?_, ?_⟩
    · rintro elder younger x slot rfl htable howner hwaits helder
      have hmem : x ∈ s.interlock.table := by rw [htable]; simp
      have hfind : s.interlock.table.find? (·.commitWaits) = some x := by
        refine find?_layout htable (x.commitWaits_iff.mpr ⟨⟨slot, howner⟩, hwaits⟩) fun y hy h => ?_
        obtain ⟨⟨i, hi⟩, hnot⟩ := y.commitWaits_iff.mp h
        rw [helder y hy i hi] at hnot
        cases hnot
      have hissue : (s.setPort (rotated .commit)).issueFrom .commit = (s.setPort (rotated .commit)).issueReservation .commit x := by
        rw [State.issueFrom, State.issueCommit, State.setPort_interlock, hfind]
      rw [hexec, hissue, State.issueReservation_eq (s := s.setPort (rotated .commit)) hapart hmem
        (f := fun y => { y with inFlight := true, firstIssued := true || y.firstIssued }) (Reservation.issued_commit howner)]
      rfl
    · rintro elder younger x slot rfl htable howner hwaits helder
      have hmem : x ∈ s.interlock.table := by rw [htable]; simp
      have hfind : s.interlock.table.find? (·.loadWaits) = some x := by
        refine find?_layout htable (x.loadWaits_iff.mpr ⟨⟨slot, howner⟩, hwaits⟩) fun y hy h => ?_
        obtain ⟨⟨i, hi⟩, hnot⟩ := y.loadWaits_iff.mp h
        rw [helder y hy i hi] at hnot
        cases hnot
      have hissue : (s.setPort (rotated .load)).issueFrom .load = (s.setPort (rotated .load)).issueReservation .load x := by
        rw [State.issueFrom, State.issueLoad, State.setPort_interlock, hfind]
      rw [hexec, hissue, State.issueReservation_eq (s := s.setPort (rotated .load)) hapart hmem
        (f := fun y => { y with inFlight := true, firstIssued := false || y.firstIssued })
        (Reservation.issued_other fun i hi => by rw [howner] at hi; cases hi)]
      rfl
    · rintro w rfl hw
      rw [hexec, State.issueFrom, State.issueNotice, State.setPort_notice, hw]
      rfl

/-! ### The DIRECT requester -/

/-- The first number with a property. -/
theorem find?_finRange_eq_some {m : Nat} {p : Fin m → Bool} {n : Fin m} (hn : p n = true) (hbefore : ∀ k, k < n → ¬ p k = true) :
    (List.finRange m).find? p = some n := by
  refine List.find?_eq_some_iff_getElem.mpr ⟨hn, n.val, by simp, by simp, fun j hj => ?_⟩
  rw [List.getElem_finRange, Bool.not_eq_true', ← Bool.not_eq_true]
  exact hbefore _ hj

/-- The first number with a property, counting round from the one after the last (R131, R151). -/
theorem find?_roundRobin_eq_some {last : Fin 16} {p : Fin 16 → Bool} {n : Fin 16} (hn : p n = true)
    (hbefore : ∀ k : Fin 16, (k - (last + 1)).val < (n - (last + 1)).val → ¬ p k = true) : (roundRobin last).find? p = some n := by
  have hback : last + 1 + (n - (last + 1)) = n := add_sub_cancel _ _
  have hforth (i : Fin 16) : last + 1 + i - (last + 1) = i := add_sub_cancel_left _ _
  have hfirst : (List.finRange 16).find? (p ∘ fun i => last + 1 + i) = some (n - (last + 1)) :=
    find?_finRange_eq_some (by rw [Function.comp_apply, hback, hn]) fun k hk => hbefore _ (by rw [hforth]; exact hk)
  rw [roundRobin, List.find?_map, hfirst, Option.map_some, hback]

/-- The initiator chosen is the first, counting round from the one after the last served, whose list is not empty (R131). -/
theorem MemoryPort.directChoice_eq_some {p : MemoryPort} {n : Initiator} (hn : p.direct[n] ≠ [])
    (hbefore : ∀ k : Fin 16, (k - (p.lastServed + 1)).val < (n - (p.lastServed + 1)).val → p.direct[k] = []) :
    p.directChoice = some n :=
  find?_roundRobin_eq_some (by simpa using hn) fun k hk => by
    rw [hbefore k hk]
    decide

/-- The chosen list gives up its oldest burst, and its initiator is the last served (R131). -/
abbrev State.serveDirect (s : State) (n : Initiator) (rest : List DirectItem) : State :=
  s.setPort { s.port with direct := s.port.direct.set n rest, lastServed := n }

theorem State.issueDirect_passThrough {n : Initiator} {rest : List DirectItem} {burst : Burst} {refs : List WordRef}
    (hchoice : s.port.directChoice = some n) (hitem : s.port.direct[n] = .passThrough burst refs :: rest) :
    s.issueDirect = (s.serveDirect n rest).issuePassThrough burst refs := by
  rw [State.issueDirect, hchoice]
  simp only [hitem]

theorem State.issueDirect_windowRead {n : Initiator} {rest : List DirectItem} {id : Fin 8}
    (hchoice : s.port.directChoice = some n) (hitem : s.port.direct[n] = .windowRead id :: rest) (hfound : s.reservation id = some x) :
    s.issueDirect = (s.serveDirect n rest).issueReservation .direct x := by
  rw [State.issueDirect, hchoice]
  simp only [hitem]
  rw [show (s.serveDirect n rest).reservation id = some x from hfound]

/-- Settles O39: the initiator is the directChoice, and its oldest item is issued by its own rule. -/
theorem directGrantsGoRoundRobin : Obligations.DirectGrantsGoRoundRobin := by
  intro s higher lower n item rest htaking hroom holds horder hhigher hitem hbefore rotation port
  have hholds (q : Requester) : s.holdsBurst q = true ↔ holds q := by
    cases q with
    | direct => exact s.holdsBurst_direct
    | commit => exact s.holdsBurst_commit
    | load => exact s.holdsBurst_load
    | notice => exact s.holdsBurst_notice
  have hpriority : s.port.priority = higher ++ .direct :: lower := by
    rw [← horder, MemoryPort.priority]
    cases s.port.mode <;> rfl
  have hrotation : (s.port.rotate .direct).rotation = rotation := by
    simp only [MemoryPort.rotate, rotation]
    cases s.port.mode <;> rfl
  have hnonempty : s.port.direct[n] ≠ [] := by rw [hitem]; nofun
  have hexec := exec_portGrant_of htaking hroom hpriority (fun p hp h => hhigher p hp ((hholds p).mp h))
    (s.holdsBurst_direct.mpr ⟨n, hnonempty⟩)
  rw [MemoryPort.rotate_eq, hrotation] at hexec
  have hchoice : (s.setPort { s.port with rotation := rotation }).port.directChoice = some n :=
    MemoryPort.directChoice_eq_some hnonempty hbefore
  refine ⟨?_, ?_, ?_⟩
  · rintro burst refs rfl hack
    rw [hexec, State.issueFrom, State.issueDirect_passThrough hchoice hitem, State.issuePassThrough]
    simp only [State.setPort_notice, hack]
    rfl
  · rintro burst refs value rfl hack
    rw [hexec, State.issueFrom, State.issueDirect_passThrough hchoice hitem, State.issuePassThrough]
    simp only [State.setPort_notice, hack]
    rfl
  · rintro id x rfl hapart hx rfl ⟨refs, howner⟩
    have hfound : (s.setPort { s.port with rotation := rotation }).reservation x.id = some x :=
      (State.reservation_eq_some hapart).mpr ⟨hx, rfl⟩
    rw [hexec, State.issueFrom, State.issueDirect_windowRead hchoice hitem hfound,
      State.issueReservation_eq (s := (s.setPort { s.port with rotation := rotation }).serveDirect n rest) hapart hx
        (f := fun y => { y with inFlight := true }) (Reservation.issued_other fun i hi => by rw [howner] at hi; cases hi)]
    rfl

end Sys2Proof.Machine

/-! The acknowledgement observer (R138, R159, R160). -/

namespace Sys2Proof.Machine

/-- The first element with a property that may depend on its place, found by its place. -/
theorem findSome?_zipIdx_eq_find?_range {α β : Type} (l : List α) (p : Nat → α → Bool) (f : α → β) :
    (l.zipIdx.findSome? fun x => if p x.2 x.1 = true then some (f x.1) else none)
      = ((List.range l.length).find? fun i => l[i]?.any (p i)).bind fun i => l[i]?.map f := by
  induction l generalizing p with
  | nil => rfl
  | cons a l ih =>
    rw [List.zipIdx_cons', List.findSome?_cons, List.length_cons, List.range_succ_eq_map, List.find?_cons]
    by_cases ha : p 0 a = true
    · simp [ha]
    · have hrest := ih fun i => p (i + 1)
      simp only [ha, List.findSome?_map, List.find?_map, List.getElem?_cons_zero, Option.any_some, Bool.false_eq_true, if_false]
      refine Eq.trans hrest ?_
      rw [Option.bind_map]
      rfl

/-- The entries that an acknowledgement retires (R159). -/
theorem NoticeUnit.retire_classes (n : NoticeUnit) (count : Nat) : (n.retire count).classes = Vector.ofFn fun k =>
    { n.classes[k] with inFlight := n.classes[k].inFlight && !((n.inFlight.take count).any fun x => x.2 == k) } := by
  refine congrArg Vector.ofFn (funext fun k => ?_)
  split
  · next hany => rw [hany, Bool.not_true, Bool.and_false]
  · next hany => rw [Bool.eq_false_iff.mpr hany, Bool.not_false, Bool.and_true]

/-- Settles O40: a search along the burst's words by their places, and the comparison of R159 in numbers. -/
theorem acknowledgementsAreObserved : Obligations.AcknowledgementsAreObserved := by
  refine ⟨fun ring burst => ?_, fun n value => ?_⟩
  · cases ring with
    | none => rfl
    | some r =>
      cases burst with
      | read _ _ => rfl
      | write a words =>
        have hsearch := findSome?_zipIdx_eq_find?_range words
          (fun i w => a + BitVec.ofNat 40 (8 * i) == r.ackWord && w.lanes == 0xFF) (·.data)
        simp only [Bool.and_eq_true, beq_iff_eq] at hsearch
        rw [ackValue, hsearch]
        refine congrArg (fun p => ((List.range words.length).find? p).bind _) (funext fun i => ?_)
        cases words[i]? with
        | none => simp
        | some w => rfl
  · intro c
    have hc : value.setWidth 32 = c := BitVec.eq_of_toNat_eq (by simp [c])
    refine ⟨fun hle => ?_, fun hlt => ?_⟩
    · intro retired
      rw [NoticeUnit.observe, hc]
      simp only [BitVec.le_def, if_pos hle]
      rw [← NoticeUnit.retire_classes]
      rfl
    · rw [NoticeUnit.observe, hc]
      simp only [BitVec.le_def, if_neg (not_le.mpr hlt)]

end Sys2Proof.Machine

/-! The responses of the memory (R128, R129): direct words, commits and notice writes. -/

namespace Sys2Proof.Machine

variable {s t : State} {item : Outstanding} {rest : List Outstanding} {id : Fin 8} {x : Reservation} {status : MemStatus}
  {data : Vector Word 32}

/-! ### The delivery of a response -/

/-- The oldest burst's place is free (R128). -/
abbrev State.freePlace (s : State) (rest : List Outstanding) : State := s.setPort { s.port with outstanding := rest }

theorem exec_memoryResponse_none (htaking : s.taking) (hnone : s.port.outstanding = []) (status : MemStatus) (data : Vector Word 32) :
    exec (.memoryResponse status data) s = .next s := by
  rw [exec, execMemoryResponse, State.event_of_taking htaking, State.respondMemory, hnone]

theorem exec_memoryResponse (htaking : s.taking) (hout : s.port.outstanding = item :: rest) (status : MemStatus) (data : Vector Word 32) :
    exec (.memoryResponse status data) s
      = .next ((s.freePlace rest).deliver item status (responseData item.burst status data)) := by
  rw [exec, execMemoryResponse, State.event_of_taking htaking, State.respondMemory, hout]

theorem State.deliver_words {refs : List WordRef} (howner : item.owner = .words refs) (words : List Word) :
    s.deliver item status words = s.answerEach refs (responseCode status) words := by
  rw [State.deliver, howner]

theorem State.deliver_noticeWriter (howner : item.owner = .noticeWriter) (words : List Word) :
    s.deliver item status words = s.setNotice (s.notice.writeResponse status) := by
  rw [State.deliver, howner]

theorem State.deliver_direct {refs : List WordRef} (howner : item.owner = .reservation id) (hfound : s.reservation id = some x)
    (hx : x.owner = .direct refs) (words : List Word) :
    s.deliver item status words = (s.handOver (.release id)).answerEach refs (responseCode status) words := by
  simp only [State.deliver, howner, hfound, hx]

theorem State.deliver_orphan (howner : item.owner = .reservation id) (hfound : s.reservation id = some x) (hx : x.owner = .load none)
    (words : List Word) : s.deliver item status words = s.handOver (.release id) := by
  simp only [State.deliver, howner, hfound, hx]

theorem State.deliver_commit {slot : Fin 16} (howner : item.owner = .reservation id) (hfound : s.reservation id = some x)
    (hx : x.owner = .commit slot) (words : List Word) : s.deliver item status words = s.commitResponse id slot status := by
  simp only [State.deliver, howner, hfound, hx]

theorem State.deliver_load {slot : Fin 24} (howner : item.owner = .reservation id) (hfound : s.reservation id = some x)
    (hx : x.owner = .load (some slot)) (words : List Word) : s.deliver item status words = s.loadResponse id slot status words := by
  simp only [State.deliver, howner, hfound, hx]

/-- The only hand-over in transit, when an event is taken. -/
theorem State.handOver_first (hnone : s.transit = []) (h : HandOver) : s.handOver h = { s with transit := [h] } := by
  rw [State.handOver, hnone]
  rfl

/-! ### The words of pass-through bursts and direct window reads -/

/-- A word's answer is recorded in its own entry (R13). -/
theorem State.answer_layout {n : Initiator} {older younger : List Entry} {e : Entry} (h : s.queueIs n older e younger) (i : Nat)
    (code : Code) (d : Word) : s.answer ⟨n, e.tag, i⟩ code d = s.withQueue n older (e.answer i code d) younger :=
  State.updateEntry_layout h _

theorem answeredWith_eq (code : Code) (d : Word) : answeredWith code d = .answered code (if code = .ok then d else 0) := by
  cases code <;> rfl

/-- Settles O41: the response goes to the owner of the oldest burst. -/
theorem responsesReachTheirOwner : Obligations.ResponsesReachTheirOwner := by
  refine ⟨fun s status data htaking => ⟨fun hnone => exec_memoryResponse_none htaking hnone status data, fun item rest hout => ?_⟩,
    fun s id x hapart => State.reservation_eq_some hapart, fun s code d ref refs => ⟨rfl, rfl⟩, ?_⟩
  · intro t code words
    have hexec := exec_memoryResponse htaking hout status data
    have hcode : responseCode status = code := by cases status <;> rfl
    have hwords : responseData item.burst status data = words := by
      simp only [words]
      cases item.burst <;> cases status <;> rfl
    have hfirst (id : Fin 8) : (s.freePlace rest).handOver (.release id) = { t with transit := [.release id] } :=
      State.handOver_first (s := s.freePlace rest) htaking.2.1 _
    rw [hwords] at hexec
    refine ⟨fun refs howner => ?_, fun id x refs howner hfound hx => ?_, fun id x howner hfound hx => ?_⟩
    · rw [hexec, State.deliver_words howner, hcode]
      rfl
    · rw [hexec, State.deliver_direct (s := s.freePlace rest) howner hfound hx, hcode, hfirst]
    · rw [hexec, State.deliver_orphan (s := s.freePlace rest) howner hfound hx, hfirst]
  · intro s n older younger e i code d h outcomes
    rw [State.answer_layout h, Entry.answer, Entry.settle_eq, answeredWith_eq]

/-! ### Commits -/

/-- Settles O42: the ends of a commit, with the release the only hand-over in transit before them. -/
theorem commitsEnd : Obligations.CommitsEnd := by
  intro s data item rest id x slot g info q htaking hout howner hfound hx hslot hsequence t released
  have hexec (status : MemStatus) : exec (.memoryResponse status data) s = .next (t.commitResponse id slot status) :=
    (exec_memoryResponse htaking hout status data).trans
      (congrArg Host.Outcome.next (State.deliver_commit (s := s.freePlace rest) howner hfound hx _))
  have hfirst : t.handOver (.release id) = released := State.handOver_first (s := t) htaking.2.1 _
  have hslot' : t.staging[slot] = .committing g info := hslot
  simp only [hexec, State.commitResponse, hslot']
  refine ⟨?_, fun hfresh => ?_, fun hretried => ?_⟩
  · rw [State.commitSucceeds, hfirst, hsequence]
    rfl
  · rw [if_neg (by rw [hfresh]; decide)]
    rfl
  · rw [if_pos hretried, State.commitFails, hfirst, hsequence]
    refine congrArg (fun u : State => Host.Outcome.next ((u.answer info.completing .memError 0).freeStaging slot s.now)) ?_
    rw [State.raiseIf]
    simp only [beq_iff_eq]
    rfl

/-! ### Notice writes -/

/-- Settles O45: the response is the notice writer's own. -/
theorem noticeWritesEnd : Obligations.NoticeWritesEnd := by
  intro s data item rest w htaking hout howner hwriter t c
  have hexec (status : MemStatus) : exec (.memoryResponse status data) s = .next (t.setNotice (s.notice.writeResponse status)) :=
    (exec_memoryResponse htaking hout status data).trans
      (congrArg Host.Outcome.next (State.deliver_noticeWriter (s := s.freePlace rest) howner _))
  simp only [hexec, NoticeUnit.writeResponse, hwriter]
  refine ⟨rfl, fun hfresh => ?_, fun hrepeated => ?_⟩
  · rw [if_neg (by rw [hfresh]; decide)]
    rfl
  · rw [if_pos hrepeated]
    rfl

end Sys2Proof.Machine

/-! The end of a commit at its window (R35 to R40). -/

namespace Sys2Proof.Machine

variable {s : State} {g : Gather} {q : BitVec 32} {time : Tick}

/-! ### The cursor -/

theorem Window.advance_table {x : Window} (h : x.kind = .table) : x.advance = x := by
  rw [Window.advance, if_pos (.inl h)]

theorem Window.advance_middle {x : Window} (hstream : x.kind = .stream) (hopen : x.state ≠ .closed)
    (hmiddle : x.cursor + 1 ≠ x.recordCount) : x.advance = { x with cursor := x.cursor + 1 } := by
  have hnot : ¬ (x.kind = .table ∨ x.state = .closed) := by simp [hstream, hopen]
  have hterminal : x.terminal = false := by simp [Window.terminal, hmiddle]
  rw [Window.advance, if_neg hnot, hterminal]
  rfl

theorem Window.terminal_last {x : Window} (hstream : x.kind = .stream) (hopen : x.state ≠ .closed)
    (hlast : x.cursor + 1 = x.recordCount) : x.terminal = true := by simp [Window.terminal, hstream, hopen, hlast]

theorem Window.advance_last {x : Window} (hstream : x.kind = .stream) (hopen : x.state ≠ .closed)
    (hlast : x.cursor + 1 = x.recordCount) : x.advance = if x.state = .active ∧ x.reload = false
      then { x with cursor := x.recordCount, state := .closed } else { x with cursor := 0 } := by
  have hnot : ¬ (x.kind = .table ∨ x.state = .closed) := by simp [hstream, hopen]
  rw [Window.advance, if_neg hnot, Window.terminal_last hstream hopen hlast, hlast]
  simp only [Bool.not_true, Bool.false_eq_true, if_false, Bool.and_eq_true, decide_eq_true_eq, Bool.not_eq_true']

theorem Window.advance_cls (x : Window) : x.advance.cls = x.cls := by
  unfold Window.advance
  split
  · rfl
  · split
    · rfl
    · split <;> rfl

/-! ### The events -/

/-- The window table across a commit's completion. -/
abbrev State.advanced (s : State) (w : WindowId) : State := s.updateWindow w Window.advance

theorem State.advanced_eq {w : WindowId} {y : Window} (h : s.windows[w].advance = y) :
    s.advanced w = { s with windows := s.windows.set w y } := by
  rw [State.advanced, State.updateWindow, updatePool, h]
  rfl

/-- An event of the window whose commit has ended goes to the window's class (R144). -/
theorem State.raiseIf_class {s : State} {w : WindowId} {c : ClassId} (h : s.windows[w].cls = c) (on : Bool) (e : Event) :
    s.raiseIf on w e = if on = true then s.raise c e else s := by
  rw [State.raiseIf, State.raiseWindow, h]

theorem State.raiseIf_windows (s : State) (on : Bool) (w : WindowId) (e : Event) : (s.raiseIf on w e).windows = s.windows := by
  simp

/-- The completion, its events in their order (R40). -/
theorem State.completeCommit_eq (s : State) (g : Gather) (q : BitVec 32) (time : Tick) : s.completeCommit g q time =
    if s.windows[g.target.window].state = .off ∨ s.partState = .clearing then s.advanced g.target.window
    else (((s.advanced g.target.window).raiseIf s.windows[g.target.window].enables.committed g.target.window
        (commitEvent .committed g q g.target.record time)).raiseIf
          (s.windows[g.target.window].terminal && s.windows[g.target.window].reload && s.windows[g.target.window].enables.wrapped)
          g.target.window (commitEvent .wrapped g q (s.windows[g.target.window].recordCount - 1) time)).raiseIf
            (s.windows[g.target.window].terminal && !s.windows[g.target.window].reload) g.target.window
            (commitEvent .closed g q (s.windows[g.target.window].recordCount - 1) time) := rfl

/-- Settles O43: the advanced window, and its three events, each for its class. -/
theorem commitCompletionMovesTheCursor : Obligations.CommitCompletionMovesTheCursor := by
  intro s g q time w x moved event raised quiet committed
  have hcls (t : State) (h : t.windows = (s.advanced w).windows) : t.windows[w].cls = x.cls := by
    rw [h, State.advanced, State.updateWindow, State.setWindows_windows, getElem_updatePool_self, Window.advance_cls]
  have hraise (t : State) (h : t.windows = (s.advanced w).windows) (on : Bool) (e : Event) : t.raiseIf on w e = raised t on e :=
    State.raiseIf_class (hcls t h) on e
  have hsame (t : State) (on : Bool) (e : Event) : (t.raiseIf on w e).windows = t.windows := t.raiseIf_windows on w e
  have hcomplete : s.completeCommit g q time = if quiet then s.advanced w else
      raised (raised (committed (s.advanced w)) (x.terminal && x.reload && x.enables.wrapped) (event .wrapped (x.recordCount - 1)))
        (x.terminal && !x.reload) (event .closed (x.recordCount - 1)) := by
    rw [State.completeCommit_eq]
    refine congrArg (fun u => if quiet then s.advanced w else u) ?_
    rw [hraise _ ((hsame _ _ _).trans (hsame _ _ _)), hraise _ (hsame _ _ _), hraise _ rfl]
    rfl
  refine ⟨fun htable => ?_, fun hstream hopen hmiddle => ?_, fun hstream hopen hlast hreload => ?_, fun hstream hopen hlast hreload => ?_⟩
  · have hadvanced : s.advanced w = s := by
      rw [State.advanced_eq (Window.advance_table htable)]
      simp
    have hterminal : x.terminal = false := by simp [Window.terminal, htable]
    rw [hcomplete, hadvanced, hterminal]
    rfl
  · have hterminal : x.terminal = false := by simp [Window.terminal, hmiddle]
    rw [hcomplete, hterminal, State.advanced_eq (Window.advance_middle hstream hopen hmiddle)]
    rfl
  · have hadvance : x.advance = { x with cursor := 0 } := by
      rw [Window.advance_last hstream hopen hlast, if_neg (by simp [hreload])]
    have hwrapped : (x.terminal && x.reload && x.enables.wrapped) = x.enables.wrapped := by
      rw [Window.terminal_last hstream hopen hlast, hreload, Bool.and_true, Bool.true_and]
    have hclosed : (x.terminal && !x.reload) = false := by rw [hreload, Bool.not_true, Bool.and_false]
    rw [hcomplete, hwrapped, hclosed, State.advanced_eq hadvance]
    rfl
  · have hadvance : x.advance = if x.state = .active then { x with cursor := x.recordCount, state := .closed } else { x with cursor := 0 } := by
      simp only [Window.advance_last hstream hopen hlast, hreload, and_true]
    have hwrapped : (x.terminal && x.reload && x.enables.wrapped) = false := by rw [hreload, Bool.and_false, Bool.false_and]
    have hclosed : (x.terminal && !x.reload) = true := by
      rw [Window.terminal_last hstream hopen hlast, hreload, Bool.not_false, Bool.and_true]
    rw [hcomplete, hwrapped, hclosed, State.advanced_eq hadvance]
    rfl

end Sys2Proof.Machine

/-! The responses to loads (R97 to R106, R117). -/

namespace Sys2Proof.Machine

variable {s t : State} {slot : Fin 24} {i : SnapshotInfo}

/-- The waiting words of a load are served in order from the words of its slot, which stay (R103). -/
theorem State.serveWaiting_eq_foldl {words : List Word} {readSet : Vector Bool 32} (hslot : s.snapshots[slot] = .held i words readSet)
    (waiting : List WaitingWord) (m : Moment) : s.serveWaiting slot waiting m
      = waiting.foldl (fun u w => (u.answer w.word .ok (words[w.offset]?.getD 0)).markServed slot w.offset m) s := by
  induction waiting generalizing s i readSet with
  | nil => rfl
  | cons w rest ih =>
    have hanswered : (s.answer w.word .ok (words[w.offset]?.getD 0)).snapshots[slot] = .held i words readSet := by
      simpa [-Fin.getElem_fin] using hslot
    have hserved : ((s.answer w.word .ok (words[w.offset]?.getD 0)).markServed slot w.offset m).snapshots[slot] = .held
        { i with lastUse := m.tick, timer := ⟨((s.answer w.word .ok (words[w.offset]?.getD 0)).timeBase.counter - m.tick).toNat, none⟩
                 useOrder := (s.answer w.word .ok (words[w.offset]?.getD 0)).snapshotUses } words
        (readSet.setIfInBounds w.offset true) := by
      rw [State.markServed_held hanswered]
      simp
    have hword : s.snapshots[slot].wordAt w.offset = words[w.offset]?.getD 0 := by rw [hslot]; rfl
    rw [State.serveWaiting, hword, ih hserved, List.foldl_cons]

/-- Settles O44: the ends of a load, with the release the only hand-over in transit before them. -/
theorem loadsEnd : Obligations.LoadsEnd := by
  refine ⟨?_, fun s slot o m i words readSet hslot => ⟨?_, State.markServed_held hslot o m⟩, ?_⟩
  · intro s data item rest id x slot i retry reload waiting a k htaking hout howner hburst hfound hx hslot words hverified t filled served
    have hexec := (exec_memoryResponse htaking hout .ok data).trans
      (congrArg Host.Outcome.next (State.deliver_load (s := s.freePlace rest) howner hfound hx _))
    have hwords : responseData item.burst .ok data = words := by rw [hburst]; rfl
    have hpasses : (!s.windows[i.target.window].stamps || stampMatches words i.target.record) = true := by
      cases hstamps : s.windows[i.target.window].stamps with
      | false => rfl
      | true => rw [hverified hstamps]; rfl
    have hsucceeds : (s.freePlace rest).loadResponse id slot .ok words = (s.freePlace rest).loadSucceeds id slot i waiting words := by
      simp only [State.loadResponse, show (s.freePlace rest).snapshots[slot] = .loading i retry reload waiting from hslot]
      exact if_pos hpasses
    have hfilled : ((s.freePlace rest).handOver (.release id)).fillSnapshot slot i words = filled := by
      rw [State.handOver_first (s := s.freePlace rest) htaking.2.1, State.fillSnapshot, startTimer]
      simp only [BitVec.sub_self, BitVec.toNat_zero]
      rfl
    have hheld : filled.snapshots[slot] = .held { i with
        lastUse := s.timeBase.counter, timer := ⟨0, none⟩, useOrder := s.snapshotUses } words (Vector.replicate 32 false) := by
      simp [filled]
    have hserved : filled.serveWaiting slot waiting s.now = served := State.serveWaiting_eq_foldl hheld waiting s.now
    rw [hexec, hwords, hsucceeds, State.loadSucceeds, hfilled]
    exact congrArg (fun u : State => Host.Outcome.next (u.releaseIfRead slot s.now)) hserved
  · rw [hslot]
    exact SnapshotSlot.fullyRead_held i words readSet
  · intro s data item rest id x slot i retry reload waiting a k htaking hout howner hburst hfound hx hslot t w words again ended
    have hexec (status : MemStatus) := (exec_memoryResponse htaking hout status data).trans
      (congrArg Host.Outcome.next (State.deliver_load (s := s.freePlace rest) howner hfound hx _))
    have hslot' : (s.freePlace rest).snapshots[slot] = .loading i retry reload waiting := hslot
    have hfails (kind : EventKind) (sequence : Option (BitVec 32)) (code : Code) :
        (s.freePlace rest).loadFails id slot i waiting kind sequence code = ended kind sequence code := by
      rw [State.loadFails, State.handOver_first (s := s.freePlace rest) htaking.2.1]
      rfl
    have hwords : responseData item.burst .ok data = words := by rw [hburst]; rfl
    have hunverified (hstamps : s.windows[w].stamps = true) (hmismatch : stampMatches words i.target.record = false) :
        ¬ (!(s.freePlace rest).windows[i.target.window].stamps || stampMatches words i.target.record) = true := by
      rw [show (s.freePlace rest).windows[i.target.window].stamps = true from hstamps, hmismatch]
      decide
    simp only [hexec, State.loadResponse, hslot', hfails, hwords]
    refine ⟨fun hretry => ?_, fun hretry => ?_, fun hstamps hmismatch => ⟨fun hreload => ?_, fun hreload => ?_⟩⟩
    · rw [if_neg (by rw [hretry]; decide)]
      rfl
    · rw [if_pos hretry]
    · rw [if_neg (hunverified hstamps hmismatch), if_neg (by rw [hreload]; decide)]
      rfl
    · rw [if_neg (hunverified hstamps hmismatch), if_pos hreload]
      rfl

end Sys2Proof.Machine

/-! The notice writer's start (R150 to R153). -/

namespace Sys2Proof.Machine

variable {s : State} {n : NoticeUnit} {r : Ring} {c : ClassId}

/-! ### The choice of a class -/

theorem NoticeClass.eligible_iff (c : NoticeClass) : c.eligible = true ↔ 0 < c.pending ∧ c.masked = false ∧ c.inFlight = false := by
  simp only [NoticeClass.eligible, Bool.and_eq_true, decide_eq_true_eq, Bool.not_eq_true', and_assoc]

theorem NoticeUnit.classChoice_fixed (hmode : n.mode = .fixed) (hc : n.classes[c].eligible = true)
    (hbefore : ∀ d : ClassId, d < c → ¬ n.classes[d].eligible = true) : n.classChoice = some c := by
  rw [NoticeUnit.classChoice, NoticeUnit.classOrder, hmode]
  exact find?_finRange_eq_some hc hbefore

theorem NoticeUnit.classChoice_rotating (hmode : n.mode = .rotating) (hc : n.classes[c].eligible = true)
    (hbefore : ∀ d : ClassId, (d - (n.lastDelivered + 1)).val < (c - (n.lastDelivered + 1)).val → ¬ n.classes[d].eligible = true) :
    n.classChoice = some c := by
  rw [NoticeUnit.classChoice, NoticeUnit.classOrder, hmode]
  exact find?_roundRobin_eq_some hc hbefore

theorem NoticeUnit.classChoice_none (h : ∀ d : ClassId, ¬ n.classes[d].eligible = true) : n.classChoice = none :=
  List.find?_eq_none.mpr fun d _ => h d

/-! ### The start -/

/-- The writer may start with a class's entry (R150). -/
abbrev NoticeUnit.mayStart (n : NoticeUnit) (r : Ring) : Prop := n.state = .running ∧ n.writer = none ∧ n.ring = some r
  ∧ (n.produced - n.consumed).toNat < r.capacity

theorem NoticeUnit.start_of (h : n.mayStart r) (hchoice : n.classChoice = some c) {first : Event} (hfirst : n.classes[c].first = some first) :
    n.start = { n with
      classes := n.classes.set c n.classes[c].emptied
      writer := some (buildWrite r n.produced c n.classes[c] first) } := by
  obtain ⟨hstate, hwriter, hring, hroom⟩ := h
  have hconditions : (decide (n.state = .running) && n.writer.isNone && n.hasRoom r) = true := by
    rw [hstate, hwriter, NoticeUnit.hasRoom, decide_eq_true hroom]
    rfl
  have hstart : n.start = n.build r c := by
    rw [NoticeUnit.start, hring, hchoice]
    exact if_pos hconditions
  rw [hstart, NoticeUnit.build, hfirst]
  rfl

/-- Without its conditions the writer leaves the unit as it is (R150). -/
theorem NoticeUnit.start_of_not (h : (∀ r, ¬ n.mayStart r) ∨ ∀ d : ClassId, ¬ n.classes[d].eligible = true) : n.start = n := by
  rcases n.start_cases with hsame | ⟨r, c, first, hring, hstate, hwriter, hroom, heligible, -, -⟩
  · exact hsame
  · rcases h with hnot | hnone
    · exact absurd ⟨hstate, hwriter, hring, decide_eq_true_iff.mp hroom⟩ (hnot r)
    · exact absurd heligible (hnone c)

/-- The writer's test as each hand-over reaches the unit. -/
theorem State.takeTesting_eq_foldl (s : State) (test : State → State) (l : List HandOver) :
    s.takeTesting test l = l.foldl (fun u h => test (u.takeHandOver h)) (test s) := by
  induction l generalizing s with
  | nil => rfl
  | cons h rest ih => exact ih _

/-- Settles O46: the writer's choice of class is the one of least rank, and its test is made around each hand-over. -/
theorem noticeWriterStartsAndBuilds : Obligations.NoticeWriterStartsAndBuilds := by
  have hexec (s : State) (htaking : s.taking) : exec .noticeWriteStart s = .next s.writerTest :=
    execNoticeWriteStart_taking s htaking.1 htaking.2.1 htaking.2.2
  refine ⟨fun s htaking => ?_, fun s htaking => hexec s htaking, fun s hrst hheld => ?_⟩
  · intro eligible rank may
    have heligible (d : ClassId) : eligible d ↔ s.notice.classes[d].eligible = true := (NoticeClass.eligible_iff _).symm
    rw [hexec s htaking]
    refine ⟨fun r c first ⟨hpart, hmay⟩ hc hleast hfirst => ?_, fun hnot => ?_⟩
    · have hbefore (d : ClassId) (hd : rank d < rank c) : ¬ s.notice.classes[d].eligible = true := fun h =>
        not_lt.mpr (hleast d ((heligible d).mpr h)) hd
      have hchoice : s.notice.classChoice = some c := by
        cases hmode : s.notice.mode with
        | fixed =>
          exact NoticeUnit.classChoice_fixed hmode ((heligible c).mp hc) fun d hd => hbefore d (by simp only [rank, hmode]; exact hd)
        | rotating =>
          exact NoticeUnit.classChoice_rotating hmode ((heligible c).mp hc) fun d hd => hbefore d (by simp only [rank, hmode]; exact hd)
      rw [State.writerTest, if_pos hpart, NoticeUnit.start_of hmay hchoice hfirst]
      rfl
    · refine congrArg _ ?_
      unfold State.writerTest
      split
      · next hpart =>
        rw [NoticeUnit.start_of_not (hnot.imp (fun h r hmay => h r ⟨hpart, hmay⟩) fun h d hd => h d ((heligible d).mpr hd))]
        rfl
      · rfl
  · intro pass first
    rw [exec, execNoticeWriteStart, State.testEvent, if_pos hrst, if_neg (by rw [hheld]; decide)]
    simp only [State.takeTesting_eq_foldl]
    rfl

end Sys2Proof.Machine

/-! Verification of stamped records (R114, R116, R117) and the layout of a notice entry (R194). -/

namespace Sys2Proof.Machine

/-! ### What a check code tells apart -/

/-- The sum over a record's data words (R114). -/
theorem checkCode_eq (data : List Word) (record : Nat) (q : BitVec 32) :
    checkCode data record q = 65535 - ((data.map pieceSum).sum + BitVec.ofNat 16 record + q.setWidth 16) := rfl

theorem checkCode_record_inj {data : List Word} {record other : Nat} {q : BitVec 32} (hrecord : record < 4096) (hother : other < 4096)
    (h : checkCode data other q = checkCode data record q) : other = record := by
  rw [checkCode_eq, checkCode_eq, sub_right_inj, add_left_inj, add_right_inj] at h
  have hnat := congrArg BitVec.toNat h
  rw [BitVec.toNat_ofNat, BitVec.toNat_ofNat] at hnat
  omega

theorem checkCode_sequence_inj {data : List Word} {record : Nat} {p q : BitVec 32} (h : checkCode data record p = checkCode data record q) :
    p.setWidth 16 = q.setWidth 16 := by
  rwa [checkCode_eq, checkCode_eq, sub_right_inj, add_right_inj] at h

/-- The piece sums of words that differ in one piece differ. -/
theorem pieceSum_ne {w v : Word} {k : Fin 4}
    (hpieces : ∀ j : Fin 4, w.extractLsb' (16 * j.val) 16 = v.extractLsb' (16 * j.val) 16 ↔ j ≠ k) : pieceSum w ≠ pieceSum v := by
  have hsum (u : Word) : pieceSum u = u.extractLsb' (16 * k.val) 16 + ∑ j ∈ Finset.univ.erase k, u.extractLsb' (16 * j.val) 16 := by
    refine Eq.trans ?_ (Finset.add_sum_erase Finset.univ (fun j : Fin 4 => u.extractLsb' (16 * j.val) 16) (Finset.mem_univ k)).symm
    rw [Fin.sum_univ_four]
    rfl
  have hothers : ∑ j ∈ Finset.univ.erase k, w.extractLsb' (16 * j.val) 16 = ∑ j ∈ Finset.univ.erase k, v.extractLsb' (16 * j.val) 16 :=
    Finset.sum_congr rfl fun j hj => (hpieces j).mpr (Finset.ne_of_mem_erase hj)
  rw [hsum w, hsum v, hothers, ne_eq, add_left_inj, hpieces k]
  exact fun h => h rfl

/-- The check codes of records whose data differ in one word differ when that word's piece sums do. -/
theorem checkCode_set_ne {data : List Word} {i : Nat} {w v : Word} (hw : data[i]? = some w) (hne : pieceSum w ≠ pieceSum v)
    (record : Nat) (q : BitVec 32) : checkCode (data.set i v) record q ≠ checkCode data record q := by
  obtain ⟨hi, rfl⟩ := List.getElem?_eq_some_iff.mp hw
  rw [checkCode_eq, checkCode_eq, ne_eq, sub_right_inj, add_left_inj, add_left_inj, List.map_set, List.sum_set',
    dif_pos (by simpa using hi), add_eq_left, List.getElem_map, neg_add_eq_zero]
  exact hne

/-- The low half of the sequence of a stamp word (R193). -/
theorem stampSequence_low (w : Word) : (stampSequence w).setWidth 16 = w.extractLsb' 32 16 := by
  refine BitVec.eq_of_toNat_eq ?_
  simp [stampSequence]

/-- Settles O50: each change keeps all terms of R114's sum but one. -/
theorem verificationCatchesSingleChanges : Obligations.VerificationCatchesSingleChanges := by
  intro data record q writer hrecord stamp
  have hsequence : stampSequence stamp = q := stampSequence_stampLayout q _ writer
  have hcheck : stampCheck stamp = checkCode data record q := stampCheck_stampLayout q _ writer
  refine ⟨?_, fun other hother hne => ?_, fun i w v k hw hpieces => ?_, fun v hlow hcheckSame => ?_⟩
  · rw [stampMatches_append, hsequence, hcheck, beq_self_eq_true]
  · rw [stampMatches_append, hsequence, hcheck, beq_eq_false_iff_ne]
    exact fun h => hne (checkCode_record_inj hrecord hother h)
  · rw [stampMatches_append, hsequence, hcheck, beq_eq_false_iff_ne]
    exact checkCode_set_ne hw (pieceSum_ne hpieces) record q
  · rw [stampMatches_append, beq_eq_false_iff_ne, show stampCheck v = stampCheck stamp from hcheckSame, hcheck]
    intro h
    have hsame := checkCode_sequence_inj h
    rw [← hsequence, stampSequence_low, stampSequence_low] at hsame
    exact hlow hsame

/-! ### The notice entry -/

section
variable {w v start : Nat} {x : BitVec w} {y : BitVec v}

/-- A field above the lowest ones of a word, and a bit of the word there. -/
theorem extract_above (h : v ≤ start) {len : Nat} : (x ++ y).extractLsb' start len = x.extractLsb' (start - v) len :=
  BitVec.extractLsb'_append_eq_of_le h

theorem getLsbD_above (h : v ≤ start) : (x ++ y).getLsbD start = x.getLsbD (start - v) := by
  rw [BitVec.getLsbD_append, if_neg (not_lt.mpr h)]

theorem getLsbD_bit_zero (b : Bool) : (x ++ bit b).getLsbD 0 = b := by
  rw [BitVec.getLsbD_append, if_pos (by decide), bit, BitVec.getLsbD_ofBool]
  rfl

end

theorem toNat_field {n m : Nat} (h : m < 2 ^ n) : (BitVec.ofNat n m).toNat = m := by
  rw [BitVec.toNat_ofNat, Nat.mod_eq_of_lt h]

/-- A number that may be absent, as an entry's field (R194). -/
theorem option_val_lt {n m : Nat} (o : Option (Fin n)) (h : n ≤ m) (hm : 0 < m) : (o.map (·.val)).getD 0 < m := by
  cases o with
  | none => exact hm
  | some i => exact i.isLt.trans_le h

theorem EventKind.code_lt (k : EventKind) : k.code < 2 ^ 4 := by cases k <;> decide

/-- The first word of an entry (R194). -/
theorem noticeEntry_word0 (z : BitVec 21) (kinds : BitVec 11) (gap : BitVec 10) (b : Bool) (window : BitVec 5) (count : BitVec 8)
    (code cls : BitVec 4) :
    let w : Word := z ++ kinds ++ gap ++ bit b ++ window ++ count ++ code ++ cls
    w.extractLsb' 0 4 = cls ∧ w.extractLsb' 4 4 = code ∧ w.extractLsb' 8 8 = count ∧ w.extractLsb' 16 5 = window
      ∧ w.getLsbD 21 = b ∧ w.extractLsb' 22 10 = gap ∧ w.extractLsb' 32 11 = kinds ∧ w.extractLsb' 43 21 = z := by
  intro w
  have hcode {start len : Nat} (h : 8 ≤ start) : w.extractLsb' start len
      = (z ++ kinds ++ gap ++ bit b ++ window ++ count).extractLsb' (start - 8) len := by
    simp only [w]
    rw [extract_above (by omega), extract_above (by omega), Nat.sub_sub]
  have hwindow {start len : Nat} (h : 21 ≤ start) : w.extractLsb' start len = (z ++ kinds ++ gap ++ bit b).extractLsb' (start - 21) len := by
    rw [hcode (by omega), extract_above (by omega), extract_above (by omega), Nat.sub_sub, Nat.sub_sub]
  have hgap {start len : Nat} (h : 32 ≤ start) : w.extractLsb' start len = (z ++ kinds).extractLsb' (start - 32) len := by
    rw [hwindow (by omega), extract_above (by omega), extract_above (by omega), Nat.sub_sub, Nat.sub_sub]
  refine ⟨BitVec.extractLsb'_append_eq_right, (extract_above (by decide)).trans BitVec.extractLsb'_append_eq_right,
    (hcode (by decide)).trans BitVec.extractLsb'_append_eq_right, ?_, ?_, ?_, (hgap (by decide)).trans BitVec.extractLsb'_append_eq_right,
    (hgap (by decide)).trans BitVec.extractLsb'_append_eq_left⟩
  · exact (hcode (by decide)).trans ((extract_above (by decide)).trans BitVec.extractLsb'_append_eq_right)
  · simp only [w]
    rw [getLsbD_above (by decide), getLsbD_above (by decide), getLsbD_above (by decide), getLsbD_above (by decide)]
    exact getLsbD_bit_zero b
  · exact (hwindow (by decide)).trans ((extract_above (by decide)).trans BitVec.extractLsb'_append_eq_right)

/-- The second word of an entry (R194). -/
theorem noticeEntry_word1 (z : BitVec 27) (b : Bool) (initiator : BitVec 4) (gap : BitVec 19) (a : Bool) (record : BitVec 12) :
    let w : Word := z ++ bit b ++ initiator ++ gap ++ bit a ++ record
    w.extractLsb' 0 12 = record ∧ w.getLsbD 12 = a ∧ w.extractLsb' 13 19 = gap ∧ w.extractLsb' 32 4 = initiator
      ∧ w.getLsbD 36 = b ∧ w.extractLsb' 37 27 = z := by
  intro w
  have hgap {start len : Nat} (h : 32 ≤ start) : w.extractLsb' start len = (z ++ bit b ++ initiator).extractLsb' (start - 32) len := by
    simp only [w]
    rw [extract_above (by omega), extract_above (by omega), extract_above (by omega), Nat.sub_sub, Nat.sub_sub]
  refine ⟨BitVec.extractLsb'_append_eq_right, ?_, ?_, (hgap (by decide)).trans BitVec.extractLsb'_append_eq_right, ?_, ?_⟩
  · exact (getLsbD_above (by decide)).trans (getLsbD_bit_zero a)
  · exact (extract_above (by decide)).trans ((extract_above (by decide)).trans BitVec.extractLsb'_append_eq_right)
  · simp only [w]
    rw [getLsbD_above (by decide), getLsbD_above (by decide), getLsbD_above (by decide), getLsbD_above (by decide)]
    exact getLsbD_bit_zero b
  · exact (hgap (by decide)).trans ((extract_above (by decide)).trans BitVec.extractLsb'_append_eq_left)

/-- The third word of an entry (R194). -/
theorem noticeEntry_word2 (z : BitVec 31) (b : Bool) (sequence : BitVec 32) :
    let w : Word := z ++ bit b ++ sequence
    w.extractLsb' 0 32 = sequence ∧ w.getLsbD 32 = b ∧ w.extractLsb' 33 31 = z :=
  ⟨BitVec.extractLsb'_append_eq_right, (getLsbD_above (by decide)).trans (getLsbD_bit_zero b),
    (extract_above (by decide)).trans BitVec.extractLsb'_append_eq_left⟩

/-- Settles O47: the words are concatenations of their fields, each of which is wide enough for its number. -/
theorem noticeEntryHasItsLayout : Obligations.NoticeEntryHasItsLayout := by
  intro c count e kinds p hcount hrecord
  obtain ⟨hcls, hcode, hcounted, hwindow, hwindowBit, hgap, hkinds, hzero⟩ := noticeEntry_word0 0#21 kinds 0#10 e.window.isSome
    (BitVec.ofNat 5 ((e.window.map (·.val)).getD 0)) (BitVec.ofNat 8 count) (BitVec.ofNat 4 e.kind.code) (BitVec.ofNat 4 c.val)
  obtain ⟨hrec, hrecBit, hgap1, hinitiator, hinitiatorBit, hzero1⟩ := noticeEntry_word1 0#27 e.initiator.isSome
    (BitVec.ofNat 4 ((e.initiator.map (·.val)).getD 0)) 0#19 e.record.isSome (BitVec.ofNat 12 (e.record.getD 0))
  obtain ⟨hsequence, hsequenceBit, hzero2⟩ := noticeEntry_word2 0#31 e.sequence.isSome (e.sequence.getD 0)
  have hrecordLt : e.record.getD 0 < 2 ^ 12 := by
    cases hr : e.record with
    | none => decide
    | some r => exact hrecord r hr
  refine ⟨_, _, _, _, rfl, ?_, ?_, ?_, ?_, hwindowBit, hgap, hkinds, hzero, ?_, hrecBit, hgap1, ?_, hinitiatorBit, hzero1,
    hsequence, hsequenceBit, hzero2, BitVec.extractLsb'_append_eq_right, BitVec.extractLsb'_append_eq_left⟩
  · exact (congrArg BitVec.toNat hcls).trans (toNat_field c.isLt)
  · exact (congrArg BitVec.toNat hcode).trans (toNat_field e.kind.code_lt)
  · exact (congrArg BitVec.toNat hcounted).trans (toNat_field (by omega))
  · exact (congrArg BitVec.toNat hwindow).trans (toNat_field (option_val_lt _ (by decide) (by decide)))
  · exact (congrArg BitVec.toNat hrec).trans (toNat_field hrecordLt)
  · exact (congrArg BitVec.toNat hinitiator).trans (toNat_field (option_val_lt _ (by decide) (by decide)))

end Sys2Proof.Machine
